-- ==== Sys2Proof/Word.lean ====
section
/-! DEFINITION. The number types of the FW4120: what the spec numbers, and nothing else. -/

namespace Sys2Proof

/-- A byte as sent on the sensor port, the line bus and the station port. -/
abbrev Byte := BitVec 8

/-- A belt count: a 32-bit modular counter of encoder counts (00 §6.1, R1). -/
abbrev Count := BitVec 32

/-- A node number, 0 to 15 (00 §6.3). -/
abbrev Node := Fin 16

/-- A material class code, 0 to 15 (00 §6.4). -/
abbrev ClassCode := Fin 16

/-- A source kind, 0 to 7 (00 §6.5). -/
abbrev SourceKind := Fin 8

/-- A class set: bit c stands for class c (R99). -/
abbrev ClassSet := BitVec 16

/-- A valve number, 0 to 63 (00 §6.1). -/
abbrev ValveNo := Fin 64

/-- A set of the bar's 64 valves: bit v stands for valve v (R163). -/
abbrev ValveSet := BitVec 64

/-- A count of events, 0 to 65,535, that stays at its end (R22 and its like). -/
abbrev Tally := BitVec 16

end Sys2Proof
end

