-- ==== Sys2Proof/Syntax.lean ====
section
/-! DEFINITION. The commands of the FW4120: one constructor for each row of spec/opcode_table.json. The part is a block, so
a command is what happens at one of its pins, timers or queues; its operands are what the rule of the row leaves to the
outside (assumption log 11). -/

namespace Sys2Proof

/-- A piece ID: origin node and sequence number 0 to 4095 (00 §6.3). -/
structure PieceId where
  node : Node
  seq : Fin 4096
deriving DecidableEq, Repr

/-- What the two encoder phases did at one sampling instant (R1). -/
inductive EncoderEdge where
  /-- Phase A leads phase B: a forward count. -/
  | forward
  /-- Phase B leads phase A: a reverse count. -/
  | reverse
  /-- Both phases changed at one sampling instant: no direction. -/
  | bothChanged
deriving DecidableEq, Repr

/-- Why a receiver discards a frame in progress (R81). -/
inductive DiscardCause where
  | accessClassThree
  | lengthOverTwenty
  | dominantStopBit
  | quietInside
  | checkMismatch
deriving DecidableEq, Repr

/-- What stands at the end of the bytes a record command carries (R15). -/
inductive RecordEnd where
  /-- Record enable is still asserted: the record is in reception. -/
  | held
  /-- Record enable is released, which completes the record; whether a partial byte came last. -/
  | released (partialByte : Bool)
deriving DecidableEq, Repr

/-- What begins or ends a station reset (11 §11.6): it lasts as long as the RESET pin is asserted. -/
inductive ResetCause where
  /-- The RESET pin is asserted. -/
  | pinAsserted
  /-- The RESET pin is released. -/
  | pinReleased
  /-- The RESET command, at the release of chip select. -/
  | command
deriving DecidableEq, Repr

/-- The commands, one for each row of spec/opcode_table.json, in the table's order. -/
inductive Instr where
  /-- ENCODER_EDGE (R1). -/
  | encoderEdge (edge : EncoderEdge)
  /-- SPEED_WINDOW_END (R4). -/
  | speedWindowEnd
  /-- SCAN_STROBE (R8). -/
  | scanStrobe
  /-- STROBE_WORD_END (R8). -/
  | strobeWordEnd
  /-- RECORD_COMPLETE (R15): the whole bytes shifted in since the last such command, and what ends them. -/
  | recordComplete (bytes : List Byte) (ending : RecordEnd)
  /-- DETECTION_ENTRY_TAKEN (R37). -/
  | detectionEntryTaken
  /-- PIECE_ENTRY_TAKEN (R42). -/
  | pieceEntryTaken
  /-- DECISION_POINT_REACHED (R66) of the track the ID names. -/
  | decisionPointReached (id : PieceId)
  /-- RETIREMENT_COUNT_REACHED (R52) of the track the ID names. -/
  | retirementCountReached (id : PieceId)
  /-- START_OF_FRAME (R11): a dominant bit after a recessive run of `run` bit times. -/
  | startOfFrame (run : Nat)
  /-- REQUIRED_COUNT_LOWERED (R85): the recessive run has reached `run`. -/
  | requiredCountLowered (run : Nat)
  /-- SLOT_START (R84): the end of the bit time at which the recessive run is `run`. -/
  | slotStart (run : Nat)
  /-- ARBITRATION_LOST (R87). -/
  | arbitrationLost
  /-- BIT_ERROR (R88). -/
  | bitError
  /-- SEND_SUCCESS (R89). -/
  | sendSuccess
  /-- FRAME_RECEIVED (R80): the bytes read, header, body and check. -/
  | frameReceived (bytes : List Byte)
  /-- FRAME_DISCARDED (R81): the cause, and the recessive run at that moment. -/
  | frameDiscarded (cause : DiscardCause) (run : Nat)
  /-- LISTENING_TIMER_END (R90). -/
  | listeningTimerEnd
  /-- HEARTBEAT_TIMER_EXPIRY (R115). -/
  | heartbeatTimerExpiry
  /-- SUPERVISION_DEADLINE (R120) of the node's peer slot. -/
  | supervisionDeadline (node : Node)
  /-- SLOT_DEADLINE_STALE (R94) of the held transmit slot at this place, the oldest being place 0. -/
  | slotDeadlineStale (place : Fin 8)
  /-- CLAIM_ENTRY_TAKEN (R132). -/
  | claimEntryTaken
  /-- RELEASE_ENTRY_TAKEN (R133). -/
  | releaseEntryTaken
  /-- FIRED_ENTRY_TAKEN (R134). -/
  | firedEntryTaken
  /-- OPEN_COUNT_REACHED (R160) of the schedule entry of the track the ID names. -/
  | openCountReached (id : PieceId)
  /-- CLOSE_COUNT_REACHED (R162) of the schedule entry of the track the ID names. -/
  | closeCountReached (id : PieceId)
  /-- GUARD_EXPIRY (R162) of the schedule entry of the track the ID names. -/
  | guardExpiry (id : PieceId)
  /-- TRANSFER_COMPLETE (R163, R174): the nine bytes the driver returned in the transfer. -/
  | transferComplete (returned : List Byte)
  /-- PRESSURE_OK_ACTIVE (R181). -/
  | pressureOkActive
  /-- PRESSURE_OK_INACTIVE (R182). -/
  | pressureOkInactive
  /-- CHARGE_TIMER_EXPIRY (R183). -/
  | chargeTimerExpiry
  /-- STANDBY_TIMER_EXPIRY (R182). -/
  | standbyTimerExpiry
  /-- CONFIRM_ENTRY_TAKEN (R178). -/
  | confirmEntryTaken
  /-- ARRIVAL_ENTRY_TAKEN (R185). -/
  | arrivalEntryTaken
  /-- EXPECTATION_EXPIRY (R186) of the first due expectation with this piece ID. -/
  | expectationExpiry (id : PieceId)
  /-- HELD_ARRIVAL_LEAVE (R186) of the oldest due held arrival. -/
  | heldArrivalLeave
  /-- HALTING_END (R147). -/
  | haltingEnd
  /-- LOAD_PROFILE (R192), command code 1, with its argument bytes. -/
  | loadProfile (arg : List Byte)
  /-- START (R191), command code 2. -/
  | start (arg : List Byte)
  /-- HALT (R147), command code 3. -/
  | halt (arg : List Byte)
  /-- RESUME LINK (R91), command code 4. -/
  | resumeLink (arg : List Byte)
  /-- EDIT VALVE MAP (R172), command code 5. -/
  | editValveMap (arg : List Byte)
  /-- READ VALVE MAP (R203), command code 6. -/
  | readValveMap (arg : List Byte)
  /-- READ STATUS (R201), command code 7. -/
  | readStatus (arg : List Byte)
  /-- READ PEERS (R202), command code 8. -/
  | readPeers (arg : List Byte)
  /-- READ OUTCOMES (R196), command code 9. -/
  | readOutcomes (arg : List Byte)
  /-- REMOVE OUTCOMES (R196), command code 10. -/
  | removeOutcomes (arg : List Byte)
  /-- CLEAR EVENTS (R197), command code 11. -/
  | clearEvents (arg : List Byte)
  /-- SET EVENT MASK (R198), command code 12. -/
  | setEventMask (arg : List Byte)
  /-- RESET (R191), command code 13. -/
  | reset (arg : List Byte)
  /-- BAD_COMMAND_CODE (R190): a command frame whose code is outside 1 to 13. -/
  | badCommandCode (code : Byte) (arg : List Byte)
  /-- PORT_TRANSACTION_ABANDONED (R189). -/
  | portTransactionAbandoned
  /-- STATION_RESET (R200). -/
  | stationReset (cause : ResetCause)
  /-- POWER_ON_RESET (R199). -/
  | powerOnReset
deriving DecidableEq, Repr

end Sys2Proof
end

