-- ==== Sys2Proof/Decode.lean ====
section
/-! DEFINITION. The command a word of spec/opcode_table.json spells, and the command a transaction of the station port carries.
Every row of the table has an empty list of fields and no fixed bits, so no word spells a command (98: n_rows_with_fixed 0,
n_rows_with_fields 0). The byte formats of the other ports are in Machine/Operands.lean. -/

namespace Sys2Proof

/-- No row of the table gives bits: no word spells a command. -/
def decodeTableWord (_nbits _w : Nat) : Option Instr := none

/-- The command of a code of 11 §11.2, with its argument; any other code is BAD_COMMAND_CODE (R190 step 1, R191). -/
def portCommand (code : Byte) (arg : List Byte) : Instr :=
  match code.toNat with
  | 1 => .loadProfile arg
  | 2 => .start arg
  | 3 => .halt arg
  | 4 => .resumeLink arg
  | 5 => .editValveMap arg
  | 6 => .readValveMap arg
  | 7 => .readStatus arg
  | 8 => .readPeers arg
  | 9 => .readOutcomes arg
  | 10 => .removeOutcomes arg
  | 11 => .clearEvents arg
  | 12 => .setEventMask arg
  | 13 => .reset arg
  | _ => .badCommandCode code arg

/-- The argument length a command frame declares in its bytes 1 and 2 (11 §11.1), byte 1 the high one. DESIGN CHOICE (assumption
log 41): the spec states no order of the two bytes. -/
def declaredLength (bytes : List Byte) : Nat := (bytes.getD 1 0).toNat * 256 + (bytes.getD 2 0).toNat

/-- The command frame is complete: its declared argument length has been shifted in (R189). -/
def frameComplete (bytes : List Byte) : Bool := 3 ≤ bytes.length && 3 + declaredLength bytes ≤ bytes.length

/-- The command of the bytes a transaction shifts in: the filler bytes after a complete frame are ignored, and a transaction that
ends before the frame is complete is abandoned (11 §11.1, R189). -/
def transactionCommand (bytes : List Byte) : Instr :=
  if frameComplete bytes then portCommand (bytes.getD 0 0) ((bytes.drop 3).take (declaredLength bytes))
  else .portTransactionAbandoned

end Sys2Proof
end

