-- ==== Sys2Proof/Config.lean ====
section
/-! DEFINITION. The fixed sizes and times of the part (00 §4.1 and the chapters that own them). The spec leaves no value to an
implementation and none undefined after a command, so there is no free value here. -/

namespace Sys2Proof.Config

/-- Scan history ring (R10). -/
abbrev ringSize : Nat := 256
/-- Intake queue (R20). -/
abbrev intakeSize : Nat := 32
/-- Track table (R32). -/
abbrev trackSize : Nat := 128
/-- Contributor list (03 §3.1). -/
abbrev contributorSize : Nat := 6
/-- Transmit slots (05 §5.7). -/
abbrev slotSize : Nat := 8
/-- General queue (R107). -/
abbrev generalSize : Nat := 24
/-- Urgent queue (R107). -/
abbrev urgentSize : Nat := 8
/-- Drop notices (R135). -/
abbrev dropNoticeSize : Nat := 16
/-- Firing schedule (R149). -/
abbrev scheduleSize : Nat := 48
/-- Cover table (R170). -/
abbrev coverSize : Nat := 8
/-- Recent-firings list (R177). -/
abbrev recentSize : Nat := 16
/-- Expectation list (10 §10.6). -/
abbrev expectationSize : Nat := 16
/-- Held-arrival list (10 §10.6). -/
abbrev heldSize : Nat := 8
/-- Acceptance list (R104). -/
abbrev acceptSize : Nat := 16
/-- Outcome queue (R195). -/
abbrev outcomeSize : Nat := 32

/-- A speed window of 16 ms, in 0.1 ms (R3). -/
abbrev windowTicks : Nat := 160
/-- One millisecond on the 0.1 ms grid of R117. -/
abbrev ticksPerMs : Nat := 10
/-- The furthest a lead scan's count may lie from the belt count (R17). -/
abbrev staleDistance : Nat := 4194304
/-- The last line position (00 §6.1). -/
abbrev lastPosition : Nat := 16777215

end Sys2Proof.Config
end

