-- ==== Sys2Proof/Machine/State.lean ====
section
/-! DEFINITION. Everything the spec gives the FW4120 to hold, block by block (00 §4.1), as plain data; its value after
power-on reset; and the reasons a step could stop with. -/

namespace Sys2Proof.Machine

/-- Evaluation mode of the tracking engine (02 §2.5). -/
inductive Mode where
  | full
  | quick
deriving DecidableEq, Repr

/-- Motion state of the belt (01 §1.3). -/
inductive Motion where
  | running
  | slow
  | stopped
  | reversing
deriving DecidableEq, Repr

/-- Station state (11 §11.2). -/
inductive Station where
  | unconfigured
  | ready
  | running
  | halting
  | halted
deriving DecidableEq, Repr

/-- Cause of a SILENT link (05 §5.6). -/
inductive SilentCause where
  | duplicate
  | failures
deriving DecidableEq, Repr

/-- Link state (05 §5.6). -/
inductive LinkState where
  | offline
  | listening
  | active
  | silent (cause : SilentCause)
deriving DecidableEq, Repr

/-- Access class of a notice (05 §5.2). -/
inductive AccessClass where
  | urgent
  | normal
  | routine
deriving DecidableEq, Repr

/-- Air supply state (10 §10.5). -/
inductive Supply where
  | standby
  | charging
  | ready
  | low
  | fault
deriving DecidableEq, Repr

/-- A class hypothesis with its score (02 §2.2). -/
structure ClassScore where
  cls : ClassCode
  score : Byte
deriving DecidableEq, Repr

/-! ### Profile (11 §11.3) -/

/-- Line bus bit rate (R77). -/
inductive BitRate where
  | kbit250
  | kbit500
  | kbit1000
deriving DecidableEq, Repr

/-- Cluster policy (profile field 22). -/
inductive ClusterPolicy where
  | eject
  | skip
deriving DecidableEq, Repr

/-- Match type of an acceptance list entry, with its match values (R104). -/
inductive AcceptMatch where
  | range (lo hi : Node)
  | pair (a b : Node)
  | classes (set : ClassSet)
deriving DecidableEq, Repr

/-- Action of an acceptance list entry (R104). -/
inductive AcceptAction where
  | accept
  | drop
  | acceptWatch
deriving DecidableEq, Repr

/-- An acceptance list entry (R104). Bit k of `kinds` stands for kind code k; bits 0, 1 and 7 are ignored. -/
structure AcceptEntry where
  enabled : Bool
  kinds : Byte
  rule : AcceptMatch
  action : AcceptAction
deriving DecidableEq, Repr

/-- The profile: fields 1 to 43 of 11 §11.3, in their order. -/
structure Profile where
  node : Node
  sense : Bool
  eject : Bool
  check : Bool
  datum : BitVec 24
  bitRate : BitRate
  heartbeatPeriod : Nat
  localKind : SourceKind
  weights : Vector Nat 8
  scanPitch : Nat
  gateLong : Nat
  gateLat : Nat
  horizon : Nat
  announceLifetime : Nat
  reportLag : Nat
  intakeHigh : Nat
  intakeLow : Nat
  generalHigh : Nat
  generalLow : Nat
  returnScans : Nat
  quickOnly : Bool
  aMin : Nat
  mMin : Vector Nat 16
  primary : ClassSet
  fallback : ClassSet
  clusterPolicy : ClusterPolicy
  priority : Vector Nat 16
  marginFront : Vector Nat 16
  marginRear : Vector Nat 16
  marginLat : Nat
  barOffset : Nat
  decisionLead : Nat
  claimLead : Nat
  openLatency : Nat
  closeLatency : Nat
  minOnTime : Nat
  maxOnTime : Nat
  sMin : Nat
  plenumLimit : Nat
  coreWidth : Nat
  standbyTime : Nat
  chargeTime : Nat
  autoCover : Bool
  suspectThreshold : Nat
  watchedBar : Node
  watchedChute : Fin 4
  flightMin : Nat
  flightMax : Nat
  acceptance : List AcceptEntry
  watermark : Nat
deriving DecidableEq, Repr

/-- What a block reads where no profile is held: no role, no target, every number 0 (assumption log 29). -/
def Profile.blank : Profile where
  node := 0
  sense := false
  eject := false
  check := false
  datum := 0
  bitRate := .kbit250
  heartbeatPeriod := 0
  localKind := 0
  weights := Vector.replicate 8 0
  scanPitch := 0
  gateLong := 0
  gateLat := 0
  horizon := 0
  announceLifetime := 0
  reportLag := 0
  intakeHigh := 0
  intakeLow := 0
  generalHigh := 0
  generalLow := 0
  returnScans := 0
  quickOnly := false
  aMin := 0
  mMin := Vector.replicate 16 0
  primary := 0
  fallback := 0
  clusterPolicy := .eject
  priority := Vector.replicate 16 0
  marginFront := Vector.replicate 16 0
  marginRear := Vector.replicate 16 0
  marginLat := 0
  barOffset := 0
  decisionLead := 0
  claimLead := 0
  openLatency := 0
  closeLatency := 0
  minOnTime := 0
  maxOnTime := 0
  sMin := 0
  plenumLimit := 0
  coreWidth := 0
  standbyTime := 0
  chargeTime := 0
  autoCover := false
  suspectThreshold := 0
  watchedBar := 0
  watchedChute := 0
  flightMin := 0
  flightMax := 0
  acceptance := []
  watermark := 0

/-! ### Notices (06 §6.1, §6.2) -/

/-- A HEARTBEAT body (06 §6.2): what a peer slot holds as its content (R117). -/
structure Heartbeat where
  sense : Bool
  eject : Bool
  check : Bool
  period : Byte
  datum : BitVec 24
  speed : BitVec 12
  primary : ClassSet
  fallback : ClassSet
  mode : Mode
  overrun : Bool
  trackFull : Bool
  supply : Supply
deriving DecidableEq, Repr

/-- The fields of a PIECE other than its line position (06 §6.2). -/
structure PieceInfo where
  id : PieceId
  length : BitVec 12
  laneLo : Byte
  laneHi : Byte
  kind : SourceKind
  mode : Mode
  cluster : Bool
  pairs : List ClassScore
deriving DecidableEq, Repr

/-- Reason carried by a RELEASE (06 §6.2). -/
inductive ReleaseReason where
  | displaced
  | supply
  | noValve
  | stopped
  | halted
  | reclassed
deriving DecidableEq, Repr

/-- The fields of a FIRED other than its counts since close (06 §6.2). -/
structure FiredInfo where
  id : PieceId
  trimmed : Bool
  clamped : Bool
  cut : Bool
  weak : Bool
  first : ValveNo
  last : ValveNo
  valves : BitVec 8
deriving DecidableEq, Repr

/-- Result carried by a CONFIRM (06 §6.2). -/
inductive ConfirmResult where
  | arrived
  | absent
deriving DecidableEq, Repr

/-- A notice as a block hands it to a transmit slot (R99): a PIECE with the D, and a FIRED with the close count, from which
the field filled at send time is computed. -/
inductive Notice where
  | heartbeat (body : Heartbeat)
  | piece (d : Count) (info : PieceInfo)
  | claim (id : PieceId) (cls : ClassCode)
  | release (id : PieceId) (reason : ReleaseReason)
  | fired (closeCount : Count) (info : FiredInfo)
  | confirm (id : PieceId) (chute : Fin 4) (result : ConfirmResult)
deriving DecidableEq, Repr

/-- A notice as it stands on the line (06 §6.2), every field filled. -/
inductive Wire where
  | heartbeat (body : Heartbeat)
  | piece (position : BitVec 24) (info : PieceInfo)
  | claim (id : PieceId) (cls : ClassCode)
  | release (id : PieceId) (reason : ReleaseReason)
  | fired (countsSince : BitVec 16) (info : FiredInfo)
  | confirm (id : PieceId) (chute : Fin 4) (result : ConfirmResult)
deriving DecidableEq, Repr

/-! ### Belt position unit (chapter 1) -/

/-- The belt position unit (R1 to R14). -/
structure Belt where
  count : Count
  /-- Forward figures of the last four completed windows, oldest first (R4). -/
  windowList : Vector Nat 4
  forward : Nat
  reverse : Nat
  speed : Nat
  zeroRun : Nat
  motion : Motion
  /-- Clear once the current window has seen a reverse count (R6). -/
  reverseFree : Bool
  /-- The current window began while the motion state was REVERSING (R6). -/
  beganReversing : Bool
  /-- The time the current window ends; absent while the window timer is stopped (R3). -/
  windowTimer : Option Nat
  scanNumber : BitVec 16
  /-- Scan history ring, oldest first (R10). -/
  ring : List (BitVec 16 × Count)
  nextStrobe : Count
  /-- The scan number word being sent; absent while the strobe output is free (R8). -/
  strobeWord : Option (BitVec 16)
  frameLatch : Count
deriving DecidableEq, Repr

/-! ### Detection intake (chapter 2) -/

/-- A converted DETECTION (R18). -/
structure Detection where
  d : Count
  length : Nat
  laneLo : Nat
  laneHi : Nat
  pairs : List ClassScore
  cluster : Bool
deriving DecidableEq, Repr

/-- A converted ARRIVAL (R19). -/
structure Arrival where
  count : Count
  chute : Fin 4
deriving DecidableEq, Repr

/-- An entry of the intake queue (02 §2.4). -/
inductive IntakeEntry where
  | detection (entry : Detection)
  | arrival (entry : Arrival)
deriving DecidableEq, Repr

/-- What the sensor port is taking in (R15, R28). -/
inductive Reception where
  /-- No record is in reception. -/
  | idle
  /-- A record is in reception, with the whole bytes shifted in so far. -/
  | receiving (bytes : List Byte)
  /-- Record enable is still asserted for a record that a reset has abandoned. -/
  | abandoned
deriving DecidableEq, Repr

/-- The detection intake (R15 to R23). -/
structure Intake where
  /-- The record in reception (R15). -/
  reception : Reception
  /-- Intake queue, oldest first (R20). -/
  queue : List IntakeEntry
  malformed : Tally
  stale : Tally
  dropped : Tally
deriving DecidableEq, Repr

/-! ### Tracking engine (chapters 3 and 4) -/

/-- The decision field of a track (R63). -/
inductive Decision where
  /-- OPEN: never evaluated. -/
  | stillOpen
  | decided (cls : ClassCode) (margin : Nat) (mode : Mode)
  | undecided (mode : Mode)
deriving DecidableEq, Repr

/-- Own-state of a track's claim part (R130). -/
inductive OwnState where
  | none
  | pending
  | owned
  | lost
  | releasedBySelf
deriving DecidableEq, Repr

/-- A track record (03 §3.1). The firing link is present while the schedule holds an entry for `key`. -/
structure Track where
  /-- The model's own name for the record: it lasts through merges, which may change the primary ID. -/
  key : Nat
  primary : PieceId
  aliasId : Option PieceId
  d : Count
  length : Nat
  laneLo : Nat
  laneHi : Nat
  /-- Position source: the measuring station's datum (R48). -/
  source : Option (BitVec 24)
  /-- The 16 accumulators (R61). -/
  accumulators : Vector Nat 16
  contributors : List (Node × SourceKind)
  cluster : Bool
  crowded : Bool
  split : Bool
  unannounced : Bool
  lateEvidence : Bool
  decision : Decision
  /-- The decision point has been met (R66). -/
  pointMet : Bool
  /-- The retirement count was reached while the firing link was present (R52). -/
  heldRetirement : Bool
  own : OwnState
  owner : Option Node
  releasedBy : List Node
  firedBy : Option Node
deriving DecidableEq, Repr

/-- Which queue the engine takes from when both hold an entry (R34). -/
inductive Turn where
  | intake
  | general
deriving DecidableEq, Repr

/-- The tracking engine (R24 to R76). -/
structure Engine where
  mode : Mode
  returnCounter : Nat
  turn : Turn
  ownSequence : Fin 4096
  /-- Track table in table order (R32). -/
  tracks : List Track
  tableFull : Bool
  passed : Tally
  trackFull : Tally
  evicted : Tally
  unannounced : Tally
  crowded : Tally
  split : Tally
  undecided : Tally
  lateEvidence : Tally
  /-- The model's own counter of track keys. -/
  nextKey : Nat
deriving DecidableEq, Repr

/-! ### Line bus controller (chapter 5) -/

/-- Status of a held transmit slot (05 §5.7); a FREE slot is one not held. -/
inductive SlotStatus where
  | pending
  | sending
  | cancelPending
deriving DecidableEq, Repr

/-- A held transmit slot (05 §5.7). Its requesting block and access class follow from the notice's kind (R99). -/
structure Slot where
  handle : Nat
  status : SlotStatus
  notice : Notice
  deadline : Option Count
  /-- The deadline was reached while the slot was sending (R94). -/
  deadlineMet : Bool
  failedAttempts : Nat
  latch : Option Count
deriving DecidableEq, Repr

/-- What the controller is doing with the frame on the line. -/
inductive FrameState where
  /-- No frame is followed. -/
  | idle
  /-- A frame is being received (R80). -/
  | receiving
  /-- The rest of a frame whose sending this station abandoned is being received (R88). -/
  | receivingAbandoned
  /-- This station has begun a frame; its start-of-frame edge is the one just driven (R84). -/
  | starting
  /-- This station is sending its frame. -/
  | sending
deriving DecidableEq, Repr

/-- The line bus controller (R77 to R98). -/
structure Link where
  state : LinkState
  listeningTimer : Option Nat
  /-- Held slots, oldest addition first (R86). -/
  slots : List Slot
  requiredUrgent : Nat
  requiredNormal : Nat
  requiredRoutine : Nat
  consecutiveFailures : Nat
  receiveErrors : Tally
  unknownKind : Tally
  duplicates : Tally
  /-- The recessive run; absent while it is not kept (R77). -/
  run : Option Nat
  frame : FrameState
  /-- The frame being driven, header, body and check (R79, R96). -/
  txFrame : List Byte
  /-- The model's own counter of slot handles. -/
  nextHandle : Nat
deriving DecidableEq, Repr

/-! ### Acceptance unit (chapter 6) -/

/-- An entry of the general or urgent queue (06 §6.4). -/
structure QueueEntry where
  wire : Wire
  origin : Node
  latch : Count
  own : Bool
deriving DecidableEq, Repr

/-- The acceptance unit (R103 to R114). -/
structure Accept where
  general : List QueueEntry
  urgent : List QueueEntry
  overrun : Bool
  malformedNotice : Tally
  listDrop : Tally
  generalDrop : Tally
  urgentDrop : Tally
  ownDrop : Tally
  quickNotice : Tally
deriving DecidableEq, Repr

/-! ### Membership unit (chapter 7) -/

/-- State of a peer slot (R117). -/
inductive PeerState where
  | absent
  | joining1
  | joining2
  | present
  | doubtful1
  | doubtful2
  | lost
deriving DecidableEq, Repr

/-- A peer slot (R117). Times are in 0.1 ms. -/
structure Peer where
  state : PeerState
  content : Option Heartbeat
  arrival : Option Nat
  deadline : Option Nat
  missed : Nat
deriving DecidableEq, Repr

/-- An emptied peer slot (R128). -/
def Peer.empty : Peer where
  state := .absent
  content := none
  arrival := none
  deadline := none
  missed := 0

/-- The membership unit (R115 to R129). -/
structure Members where
  peers : Vector Peer 16
  /-- Expected-contributor set: node and datum, in node order (R124). -/
  expected : List (Node × BitVec 24)
  adopted : ClassSet
  heartbeatTimer : Option Nat
  /-- Handle of the heartbeat added last (R115). -/
  heartbeatHandle : Option Nat
  skipped : Tally
  contentChange : Tally
deriving DecidableEq, Repr

/-! ### Claim unit (chapter 8) -/

/-- Give-up reason of an own-claim record (R131). -/
inductive GiveUp where
  | lost
  | reclassed
  | displaced
  | supply
  | noValve
  | stopped
  | halted
  | late
deriving DecidableEq, Repr

/-- An own-claim record (R131). -/
structure OwnClaim where
  id : PieceId
  cls : ClassCode
  handle : Nat
  outcomeTaken : Bool
  met : Bool
  /-- The CLAIM was met first: it set the owner to this station (R138). -/
  metFirst : Bool
  giveUp : Option GiveUp
  orphan : Bool
deriving DecidableEq, Repr

/-- Kind of an URGENT notice (06 §6.1). -/
inductive UrgentKind where
  | claim
  | release
  | fired
deriving DecidableEq, Repr

/-- A drop notice (R135) with the number of queue entries still before it. -/
structure DropNotice where
  kind : UrgentKind
  id : PieceId
  latch : Count
  remaining : Nat
deriving DecidableEq, Repr

/-- The claim unit (R130 to R148); the claim parts are in the track records. -/
structure Claim where
  ownClaims : List OwnClaim
  dropNotices : List DropNotice
  won : Tally
  lost : Tally
  unknownId : Tally
  ignored : Tally
  withheld : Tally
  unsent : Tally
  orphan : Tally
deriving DecidableEq, Repr

/-! ### Firing scheduler (chapter 9) -/

/-- State of a schedule entry (R150). -/
inductive EntryState where
  | reserved
  | armed
  | opened
deriving DecidableEq, Repr

/-- A schedule entry (R149). -/
structure Entry where
  /-- Key of the track whose firing link names this entry. -/
  track : Nat
  cls : ClassCode
  priority : Nat
  state : EntryState
  openCount : Count
  closeCount : Count
  pMin : Nat
  pMax : Nat
  valves : ValveSet
  drive : ValveSet
  trimmed : Bool
  clamped : Bool
  cut : Bool
  weak : Bool
  guard : Option Nat
deriving DecidableEq, Repr

/-- The firing scheduler (R149 to R169). -/
structure Sched where
  /-- Schedule in order of open count (R149). -/
  entries : List Entry
  admitted : Tally
  trimmed : Tally
  displaced : Tally
  cut : Tally
  interrupted : Tally
  lastPeak : Nat
deriving DecidableEq, Repr

/-- The valve bar link (R163). -/
structure Bar where
  /-- The drive last taken for a transfer, or waiting for one. -/
  drive : ValveSet
  /-- The pilot bit last taken for a transfer, or waiting for one. -/
  pilot : Bool
  /-- The nine bytes of the transfer in progress, as sent to the driver. -/
  transfer : Option (List Byte)
  /-- The drive or pilot changed while a transfer was in progress. -/
  again : Bool
deriving DecidableEq, Repr

/-! ### Valve map and health, air supply, chute check (chapter 10) -/

/-- A valve's descriptor (R170). -/
inductive Descriptor where
  | active
  | retired
  | coveredLeft
  | coveredRight
deriving DecidableEq, Repr

/-- One valve of the map with its health (R170, R176, R178). -/
structure Valve where
  descriptor : Descriptor
  suspect : Bool
  streak : Nat
  fired : BitVec 32
deriving DecidableEq, Repr

/-- A valve after power-on reset (R179). -/
def Valve.fresh : Valve where
  descriptor := .active
  suspect := false
  streak := 0
  fired := 0

/-- The valve map and valve health (R170 to R179). -/
structure ValveMap where
  valve : Vector Valve 64
  /-- Recent-firings list, oldest first (R177). -/
  recent : List (PieceId × ValveSet)
  edits : Tally
  abortedEdits : Tally
  valveFaults : Tally
  autoCovers : Tally
  recentDrops : Tally
  unlistedConfirms : Tally
deriving DecidableEq, Repr

/-- Air supply control (R180 to R183). -/
structure Air where
  supply : Supply
  chargeTimer : Option Nat
  standbyTimer : Option Nat
  /-- The moment an admission stopped the standby timer with its time already up: the expiry may still be taken as the first of
  the two (R182). -/
  standbyDue : Option Nat
  /-- Level of the pressure-ok line, an input. -/
  pressureOk : Bool
  faults : Tally
deriving DecidableEq, Repr

/-- An expectation (10 §10.6). -/
structure Expectation where
  id : PieceId
  earliest : Count
  latest : Count
  age : Nat
deriving DecidableEq, Repr

/-- A held arrival (10 §10.6); its age is its place in the list. -/
structure HeldArrival where
  count : Count
  leave : Count
deriving DecidableEq, Repr

/-- The chute check unit (R184 to R188). -/
structure Chute where
  /-- Expectations in ascending earliest count (10 §10.6). -/
  expectations : List Expectation
  /-- Held arrivals, oldest first. -/
  held : List HeldArrival
  /-- The model's own counter of expectation ages. -/
  nextAge : Nat
  arrived : Tally
  absent : Tally
  expectationDrops : Tally
  strays : Tally
  otherChute : Tally
  confirmUnsent : Tally
  firedTaken : Tally
deriving DecidableEq, Repr

/-! ### Station port (chapter 11) -/

/-- Reason of a NOT_FIRED result (R194). -/
inductive NotFired where
  | slow
  | late
  | noValve
  | supply
  | plenum
  | stopped
  | halted
deriving DecidableEq, Repr

/-- Result of an outcome record, with its qualifier (R194). -/
inductive Result where
  | fired
  | interrupted
  | notFired (reason : NotFired)
  | displaced
  | claimLost (owner : Node)
  | claimLate (failed : Bool)
  | reclassed
deriving DecidableEq, Repr

/-- An outcome record (R194). -/
structure OutcomeRecord where
  id : PieceId
  cls : ClassCode
  mode : Mode
  decisionMode : Mode
  result : Result
  trimmed : Bool
  clamped : Bool
  cut : Bool
  weak : Bool
  lateEvidence : Bool
  valveCount : Nat
  openCount : Count
  margin : Nat
deriving DecidableEq, Repr

/-- The station port (R189 to R203). -/
structure Port where
  station : Station
  /-- The profile in force; absent while none is valid. -/
  profile : Option Profile
  /-- Outcome queue, oldest first (R195). -/
  outcomes : List OutcomeRecord
  lostOutcomes : Tally
  portErrors : Tally
  /-- Event flags at the bits of R197; bit 0, OUTCOMES_READY, is computed (R198) and stays 0 here. -/
  flags : BitVec 16
  enableMask : BitVec 16
  /-- The response frame being shifted out (R189). -/
  response : List Byte
  /-- RESET has been taken and chip select is not yet released (R191). -/
  resetPending : Bool
  /-- The RESET pin is asserted, an input (R189). -/
  resetHeld : Bool
deriving DecidableEq, Repr

/-- The whole part, and the queue of commands that are waiting. -/
structure State where
  /-- Time in 0.1 ms since the end of power-on reset (R117, R202). -/
  clock : Nat
  belt : Belt
  intake : Intake
  engine : Engine
  link : Link
  accept : Accept
  members : Members
  claim : Claim
  sched : Sched
  bar : Bar
  valves : ValveMap
  air : Air
  chute : Chute
  port : Port
  /-- The commands that are waiting, first in, first out. -/
  pending : List Instr
deriving DecidableEq, Repr

/-- Reasons the part stops with a fault: none. The spec names no condition that stops the part. -/
inductive Fault where
deriving DecidableEq, Repr

/-- Reasons a command is refused by the model. -/
inductive Refusal where
  /-- Raised by exec's arm of a command that has no meaning yet; no arm raises it. Safe. -/
  | notModelled (mnemonic : String)
deriving DecidableEq, Repr

/-! ### Values after power-on reset, block by block -/

/-- R12. -/
def Belt.reset : Belt where
  count := 0
  windowList := Vector.replicate 4 0
  forward := 0
  reverse := 0
  speed := 0
  zeroRun := 0
  motion := .stopped
  reverseFree := true
  beganReversing := false
  windowTimer := none
  scanNumber := 0
  ring := []
  nextStrobe := 0
  strobeWord := none
  frameLatch := 0

/-- R28. -/
def Intake.reset : Intake where
  reception := .idle
  queue := []
  malformed := 0
  stale := 0
  dropped := 0

/-- R28, R57, R75. -/
def Engine.reset : Engine where
  mode := .full
  returnCounter := 0
  turn := .intake
  ownSequence := 0
  tracks := []
  tableFull := false
  passed := 0
  trackFull := 0
  evicted := 0
  unannounced := 0
  crowded := 0
  split := 0
  undecided := 0
  lateEvidence := 0
  nextKey := 0

/-- R98; the required quiet counts at their base of 05 §5.4. -/
def Link.reset : Link where
  state := .offline
  listeningTimer := none
  slots := []
  requiredUrgent := 12
  requiredNormal := 14
  requiredRoutine := 16
  consecutiveFailures := 0
  receiveErrors := 0
  unknownKind := 0
  duplicates := 0
  run := none
  frame := .idle
  txFrame := []
  nextHandle := 0

/-- R114. -/
def Accept.reset : Accept where
  general := []
  urgent := []
  overrun := false
  malformedNotice := 0
  listDrop := 0
  generalDrop := 0
  urgentDrop := 0
  ownDrop := 0
  quickNotice := 0

/-- R129. -/
def Members.reset : Members where
  peers := Vector.replicate 16 Peer.empty
  expected := []
  adopted := 0
  heartbeatTimer := none
  heartbeatHandle := none
  skipped := 0
  contentChange := 0

/-- R148. -/
def Claim.reset : Claim where
  ownClaims := []
  dropNotices := []
  won := 0
  lost := 0
  unknownId := 0
  ignored := 0
  withheld := 0
  unsent := 0
  orphan := 0

/-- R169. -/
def Sched.reset : Sched where
  entries := []
  admitted := 0
  trimmed := 0
  displaced := 0
  cut := 0
  interrupted := 0
  lastPeak := 0

/-- R168: a transfer with every valve closed and the pilot closed is sent. -/
def Bar.reset : Bar where
  drive := 0
  pilot := false
  transfer := some (List.replicate 9 0)
  again := false

/-- R179. -/
def ValveMap.reset : ValveMap where
  valve := Vector.replicate 64 Valve.fresh
  recent := []
  edits := 0
  abortedEdits := 0
  valveFaults := 0
  autoCovers := 0
  recentDrops := 0
  unlistedConfirms := 0

/-- R183. -/
def Air.reset : Air where
  supply := .standby
  chargeTimer := none
  standbyTimer := none
  standbyDue := none
  pressureOk := false
  faults := 0

/-- R188. -/
def Chute.reset : Chute where
  expectations := []
  held := []
  nextAge := 0
  arrived := 0
  absent := 0
  expectationDrops := 0
  strays := 0
  otherChute := 0
  confirmUnsent := 0
  firedTaken := 0

/-- R199. -/
def Port.reset : Port where
  station := .unconfigured
  profile := none
  outcomes := []
  lostOutcomes := 0
  portErrors := 0
  flags := 0
  enableMask := 0
  response := []
  resetPending := false
  resetHeld := false

/-- The part right after power-on reset, no command waiting. -/
def State.reset : State where
  clock := 0
  belt := .reset
  intake := .reset
  engine := .reset
  link := .reset
  accept := .reset
  members := .reset
  claim := .reset
  sched := .reset
  bar := .reset
  valves := .reset
  air := .reset
  chute := .reset
  port := .reset
  pending := []

end Sys2Proof.Machine
end

