-- ==== Sys2Proof/Machine/Flags.lean ====
section
/-! DEFINITION. Event flags, the enable mask and the attention line (11 §11.5). -/

namespace Sys2Proof.Machine

/-- The event flags a block sets; OUTCOMES_READY is computed and not among them (R197). -/
inductive Flag where
  | outcomeLost
  | peerChange
  | valveFault
  | valveSuspect
  | supplyFault
  | linkSilent
  | watch
  | intakeDrop
  | trackFull
  | lineStopped
deriving DecidableEq, Repr

/-- Bit positions of R197. -/
def flagBit : Flag → Nat
  | .outcomeLost => 1
  | .peerChange => 2
  | .valveFault => 3
  | .valveSuspect => 4
  | .supplyFault => 5
  | .linkSilent => 6
  | .watch => 7
  | .intakeDrop => 8
  | .trackFull => 9
  | .lineStopped => 10

/-- The word with one flag's bit set. -/
def flagWord (f : Flag) : BitVec 16 := BitVec.twoPow 16 (flagBit f)

/-- The bits that name a flag: 0 to 10 (R197). -/
def flagField : BitVec 16 := 0x07FF#16

/-- Sets an event flag; one already set stays set (R197). -/
def raiseFlag (f : Flag) (s : State) : State :=
  { s with port.flags := s.port.flags ||| flagWord f }

/-- Clears one event flag. -/
def clearFlag (f : Flag) (s : State) : State :=
  { s with port.flags := s.port.flags &&& ~~~ (flagWord f) }

/-- OUTCOMES_READY: the outcome queue's fill is at or above the watermark of a valid profile (R198). -/
def outcomesReady (s : State) : Bool :=
  match s.port.profile with
  | none => false
  | some p => p.watermark ≤ s.port.outcomes.length

/-- The eleven event flags as READ STATUS and CLEAR EVENTS report them (R197, R198). -/
def eventFlags (s : State) : BitVec 16 :=
  (s.port.flags &&& flagField &&& ~~~ 1#16) ||| (if outcomesReady s then 1#16 else 0#16)

/-- The attention line: a flag is set whose enable bit is set (R198). -/
def attention (s : State) : Bool := eventFlags s &&& s.port.enableMask ≠ 0

end Sys2Proof.Machine
end

