-- ==== Sys2Proof/Machine/Ops.lean ====
section
/-! DEFINITION. The operations the blocks share: counts along the belt, the clock, saturating counts, the tracks by ID, the
queues with the mode switch behind them, and the outcome queue. A block has no exception to take: what a condition raises is
a flag, a count or a state. -/

namespace Sys2Proof.Machine

/-! ### Counts, times, saturating counts -/

/-- Signed 32-bit difference of two counts (00 §6.1). -/
def signedDiff (a b : Count) : Int := (a - b).toInt

/-- Count `a` lies after count `b` (00 §6.1). -/
def isAfter (a b : Count) : Bool := 0 < signedDiff a b

/-- A count is reached: the belt count minus it, signed, is zero or positive (R2). -/
def reached (s : State) (x : Count) : Bool := 0 ≤ signedDiff s.belt.count x

/-- A count as a modular displacement. -/
def counts (n : Nat) : Count := BitVec.ofNat 32 n

/-- One more, staying at 65,535 (R22). -/
def bump (c : Tally) : Tally := if c = 0xFFFF#16 then c else c + 1

/-- The clock brought to a timer's time, never back (assumption log 2). -/
def clockTo (t : Nat) (s : State) : State := { s with clock := max s.clock t }

/-- The profile in force; the blank one where none is held (assumption log 29). -/
def prof (s : State) : Profile := s.port.profile.getD Profile.blank

/-- The station is RUNNING or HALTING: records, the engine, the chute check and the link's queues work (R15, R34, R188). -/
def working (s : State) : Bool := s.port.station = .running || s.port.station = .halting

/-- The station keeps tracks: its roles include SENSE or EJECT (R34). -/
def keepsTracks (s : State) : Bool := (prof s).sense || (prof s).eject

/-- A peer is present for decisions (R117). -/
def presentForDecisions : PeerState → Bool
  | .present | .doubtful1 | .doubtful2 => true
  | .absent | .joining1 | .joining2 | .lost => false

/-! ### Lists -/

/-- Removes the first element that satisfies `p` and gives it with the rest. -/
def takeFirst {α : Type} (p : α → Bool) : List α → Option (α × List α)
  | [] => none
  | x :: xs =>
    if p x then some (x, xs)
    else (takeFirst p xs).map fun r => (r.1, x :: r.2)

/-- Puts `x` before the first element that `later` holds of, else at the end. -/
def insertBefore {α : Type} (later : α → Bool) (x : α) : List α → List α
  | [] => [x]
  | y :: ys => if later y then x :: y :: ys else y :: insertBefore later x ys

/-! ### Tracks (03 §3.2) -/

/-- The track's primary or alias ID is this ID (R33). -/
def hasId (id : PieceId) (t : Track) : Bool := t.primary = id || t.aliasId = some id

/-- ID lookup (R33). -/
def trackOf (id : PieceId) (s : State) : Option Track := s.engine.tracks.find? (hasId id)

/-- The live track with this key. -/
def trackAt (key : Nat) (s : State) : Option Track := s.engine.tracks.find? (·.key = key)

/-- Changes the fields of one track, which keeps its place. -/
def modifyTrack (key : Nat) (f : Track → Track) (s : State) : State :=
  { s with engine.tracks := s.engine.tracks.map fun t => if t.key = key then f t else t }

/-- Placement in table order: after every track whose D is equal to or before the new one's (R32). -/
def placeTrack (t : Track) (tracks : List Track) : List Track := insertBefore (fun u => isAfter u.d t.d) t tracks

/-- Removes a track from the table. -/
def removeTrack (key : Nat) (s : State) : State :=
  { s with engine.tracks := s.engine.tracks.filter fun t => t.key ≠ key }

/-- Retirement count (R52). -/
def retirementCount (s : State) (t : Track) : Count := t.d + counts t.length + counts (prof s).horizon

/-- Decision point (R66). -/
def decisionPoint (s : State) (t : Track) : Count :=
  t.d + counts (prof s).barOffset - counts (prof s).decisionLead

/-- A piece's current line position at this station (R14). -/
def linePosition (s : State) (d : Count) : Int := (prof s).datum.toNat + signedDiff s.belt.count d

/-- The firing link is present: the schedule holds an entry for the track (R149). -/
def linked (key : Nat) (s : State) : Bool := s.sched.entries.any (·.track = key)

/-! ### The mode switch (02 §2.5) -/

/-- The mode and the return counter the profile sets (R26). -/
def modeFromProfile (p : Profile) (s : State) : State :=
  { s with engine.mode := if p.quickOnly then .quick else .full, engine.returnCounter := 0 }

/-- A fill has risen to its high level: QUICK, and the return counter 0 (R24). -/
def modeToQuick (s : State) : State := { s with engine.mode := .quick, engine.returnCounter := 0 }

/-- One scan strobe examines both fills (R25). -/
def modeAtStrobe (s : State) : State :=
  let p := prof s
  if s.engine.mode = .quick && !p.quickOnly then
    if s.intake.queue.length ≤ p.intakeLow && s.accept.general.length ≤ p.generalLow then
      if s.engine.returnCounter + 1 ≥ p.returnScans then
        { s with engine.mode := .full, engine.returnCounter := 0 }
      else { s with engine.returnCounter := s.engine.returnCounter + 1 }
    else { s with engine.returnCounter := 0 }
  else s

/-! ### Queues -/

/-- A converted entry joins the intake queue, or is dropped (R20, R24). -/
def joinIntake (e : IntakeEntry) (s : State) : State :=
  if s.intake.queue.length < Config.intakeSize then
    let s1 := { s with intake.queue := s.intake.queue ++ [e] }
    if s1.intake.queue.length = (prof s).intakeHigh then modeToQuick s1 else s1
  else raiseFlag .intakeDrop { s with intake.dropped := bump s.intake.dropped }

/-- A PIECE or CONFIRM joins the general queue, or is dropped (R107, R110, R113, R24). -/
def joinGeneral (e : QueueEntry) (s : State) : State :=
  if s.accept.general.length < Config.generalSize then
    let s1 := { s with accept.general := s.accept.general ++ [e] }
    let s2 :=
      match e.wire with
      | .piece _ info =>
        if !e.own && info.mode = .quick then { s1 with accept.quickNotice := bump s1.accept.quickNotice } else s1
      | _ => s1
    if s2.accept.general.length = (prof s).generalHigh then modeToQuick s2 else s2
  else { s with accept.generalDrop := bump s.accept.generalDrop }

/-- A record is put in the outcome queue, or lost (R195). -/
def putOutcome (r : OutcomeRecord) (s : State) : State :=
  if s.port.outcomes.length < Config.outcomeSize then { s with port.outcomes := s.port.outcomes ++ [r] }
  else raiseFlag .outcomeLost { s with port.lostOutcomes := bump s.port.lostOutcomes }

/-! ### Valve sets -/

/-- The set with one valve. -/
def valveBit (v : Nat) : ValveSet := BitVec.twoPow 64 v

/-- The valves of a set in ascending number. -/
def valveList (vs : ValveSet) : List Nat := (List.range 64).filter fun v => vs.getLsbD v

/-- How many valves a set holds. -/
def valveCount (vs : ValveSet) : Nat := (valveList vs).length

/-- The lowest valve of a set, 0 for an empty one. -/
def lowestValve (vs : ValveSet) : Nat := (valveList vs).headD 0

/-- The highest valve of a set, 0 for an empty one. -/
def highestValve (vs : ValveSet) : Nat := (valveList vs).getLastD 0

/-- The valves whose descriptor is ACTIVE. -/
def activeValves (s : State) : ValveSet :=
  (List.finRange 64).foldl (fun (vs : ValveSet) (v : Fin 64) => if s.valves.valve[v].descriptor = .active then vs ||| valveBit v else vs) 0

/-! ### The drive and the pilot (R163, 10 §10.5) -/

/-- The drive: the union of the drive sets of all OPEN entries (R163). -/
def driveOf (s : State) : ValveSet :=
  s.sched.entries.foldl (fun vs e => if e.state = .opened then vs ||| e.drive else vs) 0

/-- The pilot is open in CHARGING, READY and LOW (10 §10.5). -/
def pilotOpen (s : State) : Bool :=
  match s.air.supply with
  | .charging | .ready | .low => true
  | .standby | .fault => false

/-- The nine bytes of a transfer: bit 7 of byte 0 opens the pilot, and bit i of byte k drives valve 8 × (k − 1) + i (R163). -/
def transferBytes (drive : ValveSet) (pilot : Bool) : List Byte :=
  (if pilot then 0x80#8 else 0x00#8) :: (List.range 8).map fun k => (drive >>> (8 * k)).setWidth 8

/-- A change of the drive or the pilot starts a transfer, or asks for a further one while one is in progress (R163). -/
def syncBar (s : State) : State :=
  let d := driveOf s
  let p := pilotOpen s
  if s.bar.drive = d && s.bar.pilot = p then s
  else if s.bar.transfer.isSome then { s with bar.drive := d, bar.pilot := p, bar.again := true }
  else { s with bar.drive := d, bar.pilot := p, bar.transfer := some (transferBytes d p) }

/-! ### The standby timer (R182) -/

/-- The standby timer starts from its full length; a standby time of 0 starts none (R182). -/
def startStandbyTimer (s : State) : State :=
  if (prof s).standbyTime = 0 then s
  else
    { s with
      air.standbyTimer := some (s.clock + (prof s).standbyTime * 1000 * Config.ticksPerMs)
      air.standbyDue := none }

/-- An admission into an empty schedule stops the standby timer; a timer whose time is up at that very moment is remembered, since
its expiry may be taken as the first of the two (R182). -/
def stopStandbyTimer (s : State) : State :=
  { s with
    air.standbyTimer := none
    air.standbyDue :=
      match s.air.standbyTimer with
      | none => none
      | some t => if t ≤ s.clock then some s.clock else none }

/-- The scheduler reports that the schedule has become empty (R166, R182). -/
def scheduleEmptied (s : State) : State :=
  if s.sched.entries.isEmpty && (s.air.supply = .ready || s.air.supply = .low) then startStandbyTimer s else s

end Sys2Proof.Machine
end

