-- ==== Sys2Proof/Machine/Operands.lean ====
section
/-! DEFINITION. The operand forms of the commands, byte by byte: sensor records (02 §2.2), frames and notice bodies (05 §5.2,
06 §6.2) with their check (R79), the profile (11 §11.3) and the edit list (11 §11.2). -/

namespace Sys2Proof.Machine

/-! ### Bytes, most significant first -/

/-- A byte of a number, its low 8 bits. -/
def byteOf (n : Nat) : Byte := BitVec.ofNat 8 n

/-- Two bytes of a number. -/
def bytes2 (n : Nat) : List Byte := [byteOf (n / 256), byteOf n]

/-- Three bytes of a number. -/
def bytes3 (n : Nat) : List Byte := [byteOf (n / 65536), byteOf (n / 256), byteOf n]

/-- Four bytes of a number. -/
def bytes4 (n : Nat) : List Byte := [byteOf (n / 16777216), byteOf (n / 65536), byteOf (n / 256), byteOf n]

/-- The value of byte `i`, 0 where there is none. -/
def u8 (b : List Byte) (i : Nat) : Nat := (b.getD i 0).toNat

/-- The value of two bytes from `i`. -/
def u16 (b : List Byte) (i : Nat) : Nat := u8 b i * 256 + u8 b (i + 1)

/-- The value of three bytes from `i`. -/
def u24 (b : List Byte) (i : Nat) : Nat := u16 b i * 256 + u8 b (i + 2)

/-- Bit `k` of byte `i`. -/
def bitAt (b : List Byte) (i k : Nat) : Bool := (b.getD i 0).getLsbD k

/-- A flag's value in a byte. -/
def flagValue (f : Bool) (value : Nat) : Nat := if f then value else 0

/-! ### Sensor records (02 §2.2) -/

/-- The number of bytes a record's kind and pair count call for; absent where the kind is unknown or the pair count over 4
(R16). -/
def recordLength (b : List Byte) : Option Nat :=
  match u8 b 0 / 16 with
  | 1 => if u8 b 0 % 8 ≤ 4 then some (7 + 2 * (u8 b 0 % 8)) else none
  | 2 => some 3
  | _ => none

/-- Pairs of a record or a PIECE body from byte `i`: class in the low four bits, then the score. -/
def pairsAt (b : List Byte) (i : Nat) : Nat → List ClassScore
  | 0 => []
  | n + 1 => ⟨Fin.ofNat 16 (u8 b i), b.getD (i + 1) 0⟩ :: pairsAt b (i + 2) n

/-- The lead scan of a record (02 §2.2). -/
def leadScan (b : List Byte) : BitVec 16 := BitVec.ofNat 16 (u16 b 1)

/-- The trail scan of a DETECTION (02 §2.2). -/
def trailScan (b : List Byte) : BitVec 16 := BitVec.ofNat 16 (u16 b 3)

/-! ### The check of a frame (R79) -/

/-- One data bit into the check register (R79). -/
def crcBit (reg : BitVec 16) (bit : Bool) : BitVec 16 :=
  let shifted := reg <<< 1
  if reg.getLsbD 15 ^^ bit then shifted ^^^ 0x1021#16 else shifted

/-- One byte into the check register, most significant bit first (R79). -/
def crcByte (reg : BitVec 16) (b : Byte) : BitVec 16 :=
  [7, 6, 5, 4, 3, 2, 1, 0].foldl (fun r k => crcBit r (b.getLsbD k)) reg

/-- The check over header and body (R79). -/
def crc (b : List Byte) : BitVec 16 := b.foldl crcByte 0xFFFF#16

/-! ### Frame header (05 §5.2) -/

/-- Code of an access class in the header. -/
def classCode : AccessClass → Nat
  | .urgent => 0
  | .normal => 1
  | .routine => 2

/-- Header fields of a frame: access class, kind, origin node and body length as sent. -/
structure Header where
  cls : Nat
  kind : Nat
  origin : Node
  length : Nat
deriving DecidableEq, Repr

/-- The header of a frame's first two bytes (05 §5.2). -/
def headerOf (b : List Byte) : Header where
  cls := u8 b 0 / 64
  kind := u8 b 0 / 4 % 16
  origin := Fin.ofNat 16 (u8 b 0 % 4 * 4 + u8 b 1 / 64)
  length := u8 b 1 % 64

/-- The two header bytes (05 §5.2). -/
def headerBytes (cls kind origin length : Nat) : List Byte :=
  [byteOf (cls * 64 + kind * 4 + origin / 4), byteOf (origin % 4 * 64 + length)]

/-! ### Notices (06 §6.1) -/

/-- Access class the kind fixes (06 §6.1). -/
def noticeClass : Notice → AccessClass
  | .heartbeat _ => .routine
  | .piece _ _ => .normal
  | .claim _ _ => .urgent
  | .release _ _ => .urgent
  | .fired _ _ => .urgent
  | .confirm _ _ _ => .normal

/-- Access class of a notice on the line (06 §6.1). -/
def wireClass : Wire → AccessClass
  | .heartbeat _ => .routine
  | .piece _ _ => .normal
  | .claim _ _ => .urgent
  | .release _ _ => .urgent
  | .fired _ _ => .urgent
  | .confirm _ _ _ => .normal

/-- Kind code of a notice on the line (06 §6.1). -/
def wireKind : Wire → Nat
  | .heartbeat _ => 1
  | .piece _ _ => 2
  | .claim _ _ => 3
  | .release _ _ => 4
  | .fired _ _ => 5
  | .confirm _ _ _ => 6

/-- Line position at a start-of-frame edge, saturating at the ends of the line (R100). -/
def linePositionAt (datum : BitVec 24) (latch d : Count) : BitVec 24 :=
  let x : Int := datum.toNat + signedDiff latch d
  if x < 0 then 0 else if Config.lastPosition < x then BitVec.ofNat 24 Config.lastPosition else BitVec.ofInt 24 x

/-- Counts since close at a start-of-frame edge, saturating at 0 and 65,535 (R101). -/
def countsSinceClose (latch close : Count) : BitVec 16 :=
  let x := signedDiff latch close
  if x < 0 then 0 else if 65535 < x then 0xFFFF#16 else BitVec.ofInt 16 x

/-- The notice of one attempt, its send-time field filled from that attempt's frame latch (R96). -/
def fillNotice (datum : BitVec 24) (latch : Count) : Notice → Wire
  | .heartbeat body => .heartbeat body
  | .piece d info => .piece (linePositionAt datum latch d) info
  | .claim id cls => .claim id cls
  | .release id reason => .release id reason
  | .fired close info => .fired (countsSinceClose latch close) info
  | .confirm id chute result => .confirm id chute result

/-! ### Bodies as sent (06 §6.2) -/

/-- A piece ID: node in the upper four bits, sequence in the lower twelve (R99). -/
def idBytes (id : PieceId) : List Byte := bytes2 (id.node * 4096 + id.seq)

/-- Code of the supply state in a heartbeat and in READ STATUS. -/
def supplyCode : Supply → Nat
  | .standby => 0
  | .charging => 1
  | .ready => 2
  | .low => 3
  | .fault => 4

/-- Code of the mode: 0 FULL, 1 QUICK. -/
def modeCode : Mode → Nat
  | .full => 0
  | .quick => 1

/-- Code of a RELEASE reason. -/
def releaseCode : ReleaseReason → Nat
  | .displaced => 0
  | .supply => 1
  | .noValve => 2
  | .stopped => 3
  | .halted => 4
  | .reclassed => 5

/-- Code of a CONFIRM result. -/
def confirmCode : ConfirmResult → Nat
  | .arrived => 0
  | .absent => 1

/-- The 13 bytes of a HEARTBEAT body (06 §6.2). -/
def heartbeatBytes (h : Heartbeat) : List Byte :=
  [byteOf (flagValue h.sense 128 + flagValue h.eject 64 + flagValue h.check 32)]
    ++ bytes2 h.period.toNat ++ bytes3 h.datum.toNat ++ bytes2 h.speed.toNat ++ bytes2 h.primary.toNat
    ++ bytes2 h.fallback.toNat
    ++ [byteOf (modeCode h.mode * 128 + flagValue h.overrun 64 + flagValue h.trackFull 32 + supplyCode h.supply)]

/-- The bytes of a PIECE body's pairs (06 §6.2). -/
def pairBytes (pairs : List ClassScore) : List Byte := pairs.flatMap fun q => [byteOf q.cls, q.score]

/-- A notice's body (06 §6.2). -/
def bodyBytes : Wire → List Byte
  | .heartbeat h => heartbeatBytes h
  | .piece pos i =>
    idBytes i.id ++ bytes3 pos.toNat ++ bytes2 i.length.toNat ++ [i.laneLo, i.laneHi]
      ++ [byteOf (i.kind * 32 + modeCode i.mode * 16 + flagValue i.cluster 8 + i.pairs.length)] ++ pairBytes i.pairs
  | .claim id cls => idBytes id ++ [byteOf cls]
  | .release id reason => idBytes id ++ [byteOf (releaseCode reason)]
  | .fired since i =>
    idBytes i.id ++ [byteOf (flagValue i.trimmed 128 + flagValue i.clamped 64 + i.first)]
      ++ [byteOf (flagValue i.cut 128 + flagValue i.weak 64 + i.last)] ++ [i.valves] ++ bytes2 since.toNat
  | .confirm id chute result => idBytes id ++ [byteOf chute] ++ [byteOf (confirmCode result)]

/-- Header and body of a notice sent by a node. -/
def headedBytes (origin : Node) (w : Wire) : List Byte :=
  headerBytes (classCode (wireClass w)) (wireKind w) origin (bodyBytes w).length ++ bodyBytes w

/-- The whole frame: header, body and check, high byte first (R79). -/
def frameBytes (origin : Node) (w : Wire) : List Byte :=
  let b := headedBytes origin w
  b ++ bytes2 (crc b).toNat

/-! ### Bodies as received (06 §6.2, R103) -/

/-- The piece ID at byte `i`. -/
def idAt (b : List Byte) (i : Nat) : PieceId := ⟨Fin.ofNat 16 (u8 b i / 16), Fin.ofNat 4096 (u16 b i)⟩

/-- The supply state a code names. -/
def supplyOf (code : Nat) : Option Supply :=
  match code with
  | 0 => some .standby
  | 1 => some .charging
  | 2 => some .ready
  | 3 => some .low
  | 4 => some .fault
  | _ => none

/-- The RELEASE reason a code names. -/
def releaseOf (code : Nat) : Option ReleaseReason :=
  match code with
  | 0 => some .displaced
  | 1 => some .supply
  | 2 => some .noValve
  | 3 => some .stopped
  | 4 => some .halted
  | 5 => some .reclassed
  | _ => none

/-- The mode of a mode bit. -/
def modeOf (quick : Bool) : Mode := if quick then .quick else .full

/-- A HEARTBEAT body that fits (R103); the bits the layout marks zero are ignored (R99), so S is its 12 bits. -/
def heartbeatOf (b : List Byte) : Option Heartbeat :=
  match supplyOf (u8 b 12 % 8) with
  | none => none
  | some supply =>
    if b.length = 13 && (bitAt b 0 7 || bitAt b 0 6 || bitAt b 0 5) && 20 ≤ u16 b 1 && u16 b 1 ≤ 250 then
      some
        { sense := bitAt b 0 7
          eject := bitAt b 0 6
          check := bitAt b 0 5
          period := byteOf (u16 b 1)
          datum := BitVec.ofNat 24 (u24 b 3)
          speed := BitVec.ofNat 12 (u16 b 6)
          primary := BitVec.ofNat 16 (u16 b 8)
          fallback := BitVec.ofNat 16 (u16 b 10)
          mode := modeOf (bitAt b 12 7)
          overrun := bitAt b 12 6
          trackFull := bitAt b 12 5
          supply := supply }
    else none

/-- A PIECE body that fits (R103). -/
def pieceOf (b : List Byte) : Option Wire :=
  let n := u8 b 9 % 8
  let len : BitVec 12 := BitVec.ofNat 12 (u16 b 5)
  if n ≤ 4 && b.length = 10 + 2 * n && len ≠ 0 && u8 b 7 ≤ u8 b 8 then
    some (.piece (BitVec.ofNat 24 (u24 b 2))
      { id := idAt b 0
        length := len
        laneLo := b.getD 7 0
        laneHi := b.getD 8 0
        kind := Fin.ofNat 8 (u8 b 9 / 32)
        mode := modeOf (bitAt b 9 4)
        cluster := bitAt b 9 3
        pairs := pairsAt b 10 n })
  else none

/-- A FIRED body that fits (R103). -/
def firedOf (b : List Byte) : Option Wire :=
  let first := u8 b 2 % 64
  let last := u8 b 3 % 64
  let n := u8 b 4
  if b.length = 7 && first ≤ last && n ≠ 0 && n ≤ last - first + 1 && (first = last || 2 ≤ n) then
    some (.fired (BitVec.ofNat 16 (u16 b 5))
      { id := idAt b 0
        trimmed := bitAt b 2 7
        clamped := bitAt b 2 6
        cut := bitAt b 3 7
        weak := bitAt b 3 6
        first := Fin.ofNat 64 first
        last := Fin.ofNat 64 last
        valves := b.getD 4 0 })
  else none

/-- A CONFIRM body that fits (R103). -/
def confirmOf (b : List Byte) : Option Wire :=
  if b.length = 4 && u8 b 2 ≤ 3 then
    match u8 b 3 with
    | 0 => some (.confirm (idAt b 0) (Fin.ofNat 4 (u8 b 2)) .arrived)
    | 1 => some (.confirm (idAt b 0) (Fin.ofNat 4 (u8 b 2)) .absent)
    | _ => none
  else none

/-- The notice of a received frame of known kind, absent where its class or body does not fit its kind (R103). -/
def wireOf (cls kind : Nat) (b : List Byte) : Option Wire :=
  match kind with
  | 1 => if cls = 2 then (heartbeatOf b).map .heartbeat else none
  | 2 => if cls = 1 then pieceOf b else none
  | 3 => if cls = 0 && b.length = 3 then some (.claim (idAt b 0) (Fin.ofNat 16 (u8 b 2))) else none
  | 4 => if cls = 0 && b.length = 3 then (releaseOf (u8 b 2)).map (.release (idAt b 0)) else none
  | 5 => if cls = 0 then firedOf b else none
  | 6 => if cls = 1 then confirmOf b else none
  | _ => none

/-! ### The profile (11 §11.3, R192) -/

/-- A value within a closed range. -/
def within (lo hi n : Nat) : Bool := lo ≤ n && n ≤ hi

/-- Every value of a per-kind or per-class list of bytes lies at or below `hi`. -/
def bytesWithin (a : List Byte) (start n hi : Nat) : Bool := (List.range n).all fun i => u8 a (start + i) ≤ hi

/-- Byte of the first acceptance list entry. -/
def acceptStart : Nat := 181

/-- One acceptance list entry's own checks (R192). -/
def acceptEntryOk (a : List Byte) (i : Nat) : Bool :=
  let o := acceptStart + 6 * i
  u8 a o ≤ 1 && u8 a (o + 2) ≤ 2 && u8 a (o + 5) ≤ 2
    && (u8 a (o + 2) = 2 || (u8 a (o + 3) ≤ 15 && u8 a (o + 4) ≤ 15))

/-- One field's index with the outcome of its check. -/
def fieldCheck (index : Nat) (ok : Bool) : Nat × Bool := (index, ok)

/-- Each field's index with the outcome of its check, in ascending index order (11 §11.3). Fields whose every value is valid
have no line. -/
def profileChecks (a : List Byte) : List (Nat × Bool) :=
  [ fieldCheck 1 (u8 a 0 ≤ 15),
    fieldCheck 2 (u8 a 1 / 32 ≠ 0),
    fieldCheck 4 (u16 a 5 = 250 || u16 a 5 = 500 || u16 a 5 = 1000),
    fieldCheck 5 (within 20 250 (u8 a 7)),
    fieldCheck 6 (u8 a 8 ≤ 7),
    fieldCheck 7 (bytesWithin a 9 8 15),
    fieldCheck 8 (1 ≤ u8 a 17),
    fieldCheck 9 (u16 a 18 ≤ 1023),
    fieldCheck 10 (u8 a 20 ≤ 31),
    fieldCheck 12 (1 ≤ u16 a 23),
    fieldCheck 14 (within 8 31 (u8 a 27) && u8 a 28 < u8 a 27),
    fieldCheck 15 (within 4 23 (u8 a 29) && u8 a 30 < u8 a 29),
    fieldCheck 16 (1 ≤ u8 a 31),
    fieldCheck 17 (u8 a 32 ≤ 1),
    fieldCheck 21 (BitVec.ofNat 16 (u16 a 67) &&& BitVec.ofNat 16 (u16 a 69) = 0),
    fieldCheck 22 (u8 a 71 ≤ 1),
    fieldCheck 23 (bytesWithin a 72 16 7),
    fieldCheck 24 ((List.range 32).all fun i => u16 a (88 + 2 * i) ≤ 1023),
    fieldCheck 25 (u8 a 152 ≤ 7),
    fieldCheck 26 (1 ≤ u16 a 153),
    fieldCheck 27 (1 ≤ u16 a 155),
    fieldCheck 28 (u16 a 157 ≤ 4095),
    fieldCheck 29 (within 1 80 (u8 a 159)),
    fieldCheck 30 (within 1 80 (u8 a 160)),
    fieldCheck 31 (within 5 100 (u8 a 161)),
    fieldCheck 32 (within 50 2000 (u16 a 162) && u8 a 161 < u16 a 162),
    fieldCheck 33 (within 1 4095 (u16 a 164)),
    fieldCheck 34 (within 4 64 (u8 a 166)),
    fieldCheck 35 (within 1 8 (u8 a 167)),
    fieldCheck 36 (u16 a 168 ≤ 600),
    fieldCheck 37 (within 20 2000 (u16 a 170)),
    fieldCheck 38 (u8 a 172 ≤ 1),
    fieldCheck 39 (within 3 15 (u8 a 173)),
    fieldCheck 40 (u8 a 174 ≤ 15 && u8 a 175 ≤ 3),
    fieldCheck 41 (u16 a 176 < u16 a 178),
    fieldCheck 42 (u8 a 180 ≤ 16 && (List.range (u8 a 180)).all (acceptEntryOk a)),
    fieldCheck 43 (within 1 32 (u8 a 277)) ]

/-- The index of the first offending field (R192). -/
def profileOffence (a : List Byte) : Option Nat := ((profileChecks a).find? fun c => !c.2).map (·.1)

/-- One acceptance list entry (11 §11.3). -/
def acceptEntryAt (a : List Byte) (i : Nat) : AcceptEntry :=
  let o := acceptStart + 6 * i
  { enabled := u8 a o = 1
    kinds := a.getD (o + 1) 0
    rule :=
      match u8 a (o + 2) with
      | 0 => .range (Fin.ofNat 16 (u8 a (o + 3))) (Fin.ofNat 16 (u8 a (o + 4)))
      | 1 => .pair (Fin.ofNat 16 (u8 a (o + 3))) (Fin.ofNat 16 (u8 a (o + 4)))
      | _ => .classes (BitVec.ofNat 16 (u16 a (o + 3)))
    action :=
      match u8 a (o + 5) with
      | 0 => .accept
      | 1 => .drop
      | _ => .acceptWatch }

/-- The profile a checked load of 278 bytes holds, its fields in index order (11 §11.3). Field 24 holds each class's Mf and
then its Mr (assumption log 13). -/
def profileOf (a : List Byte) : Profile where
  node := Fin.ofNat 16 (u8 a 0)
  sense := bitAt a 1 7
  eject := bitAt a 1 6
  check := bitAt a 1 5
  datum := BitVec.ofNat 24 (u24 a 2)
  bitRate := if u16 a 5 = 250 then .kbit250 else if u16 a 5 = 500 then .kbit500 else .kbit1000
  heartbeatPeriod := u8 a 7
  localKind := Fin.ofNat 8 (u8 a 8)
  weights := Vector.ofFn fun k => u8 a (9 + k)
  scanPitch := u8 a 17
  gateLong := u16 a 18
  gateLat := u8 a 20
  horizon := u16 a 21
  announceLifetime := u16 a 23
  reportLag := u16 a 25
  intakeHigh := u8 a 27
  intakeLow := u8 a 28
  generalHigh := u8 a 29
  generalLow := u8 a 30
  returnScans := u8 a 31
  quickOnly := u8 a 32 = 1
  aMin := u16 a 33
  mMin := Vector.ofFn fun c => u16 a (35 + 2 * c)
  primary := BitVec.ofNat 16 (u16 a 67)
  fallback := BitVec.ofNat 16 (u16 a 69)
  clusterPolicy := if u8 a 71 = 0 then .eject else .skip
  priority := Vector.ofFn fun c => u8 a (72 + c)
  marginFront := Vector.ofFn fun c => u16 a (88 + 4 * c)
  marginRear := Vector.ofFn fun c => u16 a (90 + 4 * c)
  marginLat := u8 a 152
  barOffset := u16 a 153
  decisionLead := u16 a 155
  claimLead := u16 a 157
  openLatency := u8 a 159
  closeLatency := u8 a 160
  minOnTime := u8 a 161
  maxOnTime := u16 a 162
  sMin := u16 a 164
  plenumLimit := u8 a 166
  coreWidth := u8 a 167
  standbyTime := u16 a 168
  chargeTime := u16 a 170
  autoCover := u8 a 172 = 1
  suspectThreshold := u8 a 173
  watchedBar := Fin.ofNat 16 (u8 a 174)
  watchedChute := Fin.ofNat 4 (u8 a 175)
  flightMin := u16 a 176
  flightMax := u16 a 178
  acceptance := (List.range (u8 a 180)).map (acceptEntryAt a)
  watermark := u8 a 277

/-! ### The valve bar link (R163) -/

/-- The fault mask in the nine bytes the driver returns: bit i of byte k reports valve 8 × (k − 1) + i faulted (R163). -/
def faultMaskOf (returned : List Byte) : ValveSet :=
  (List.range 64).foldl (fun vs v => if bitAt returned (1 + v / 8) (v % 8) then vs ||| BitVec.twoPow 64 v else vs) 0

/-! ### The edit list (11 §11.2) -/

/-- The descriptor a code of EDIT VALVE MAP names. -/
def descriptorOf (code : Nat) : Option Descriptor :=
  match code with
  | 0 => some .active
  | 1 => some .retired
  | 2 => some .coveredLeft
  | 3 => some .coveredRight
  | _ => none

/-- Code of a descriptor in EDIT VALVE MAP and READ VALVE MAP. -/
def descriptorCode : Descriptor → Nat
  | .active => 0
  | .retired => 1
  | .coveredLeft => 2
  | .coveredRight => 3

/-- The pairs of an edit list as sent: valve byte and descriptor code. -/
def editPairs (a : List Byte) : List (Nat × Nat) :=
  (List.range (u8 a 0)).map fun i => (u8 a (1 + 2 * i), u8 a (2 + 2 * i))

end Sys2Proof.Machine
end

