-- ==== Sys2Proof/Machine/Slots.lean ====
section
/-! DEFINITION. The transmit slots of the line bus controller as the blocks use them: adding a notice, and the outcome an
addition ends with (05 §5.7). The outcome of an own CLAIM is in Machine/ClaimUnit.lean. -/

namespace Sys2Proof.Machine

/-- Why an addition ends CANCELLED (R96). -/
inductive CancelCause where
  | requested
  | evicted
  | silent
  | offline
deriving DecidableEq, Repr

/-- The outcome an addition ends with (R96). -/
inductive TxOutcome where
  | sent
  | sentDespiteCancel
  | cancelled (cause : CancelCause)
  | stale
  | failed
deriving DecidableEq, Repr

/-- What an addition's end returns to its requesting block: the outcome with the slot's latch, absent when the notice was never
started (R96). -/
structure TxReport where
  outcome : TxOutcome
  latch : Option Count
deriving DecidableEq, Repr

/-- The notice reached the line (R96). -/
def reachedLine : TxOutcome → Bool
  | .sent | .sentDespiteCancel => true
  | .cancelled _ | .stale | .failed => false

/-- The link accepts slot additions (05 §5.6). -/
def acceptsAdds (s : State) : Bool := s.link.state = .listening || s.link.state = .active

/-- The held slot with this handle. -/
def slotAt (handle : Nat) (s : State) : Option Slot := s.link.slots.find? (·.handle = handle)

/-- The slot becomes FREE. -/
def removeSlot (handle : Nat) (s : State) : State :=
  { s with link.slots := s.link.slots.filter fun x => x.handle ≠ handle }

/-- Changes one held slot, which keeps its age. -/
def modifySlot (handle : Nat) (f : Slot → Slot) (s : State) : State :=
  { s with link.slots := s.link.slots.map fun x => if x.handle = handle then f x else x }

/-- The outcome of a PIECE request reaches the engine (R51). -/
def pieceOutcome (id : PieceId) (r : TxReport) (s : State) : State :=
  match trackOf id s with
  | none => s
  | some t => modifyTrack t.key (fun u => { u with unannounced := !reachedLine r.outcome }) s

/-- The outcome of a notice other than a CLAIM reaches its requesting block: R51, R116, R145, R187. -/
def noticeOutcome (n : Notice) (r : TxReport) (s : State) : State :=
  match n with
  | .heartbeat _ => if reachedLine r.outcome then s else { s with members.skipped := bump s.members.skipped }
  | .piece _ info => pieceOutcome info.id r s
  | .claim _ _ => s
  | .release _ _ | .fired _ _ => if reachedLine r.outcome then s else { s with claim.unsent := bump s.claim.unsent }
  | .confirm _ _ _ => if reachedLine r.outcome then s else { s with chute.confirmUnsent := bump s.chute.confirmUnsent }

/-- A PENDING slot with a NORMAL or ROUTINE notice, which an URGENT add may evict (R93). -/
def evictable (x : Slot) : Bool := x.status = .pending && noticeClass x.notice ≠ .urgent

/-- A slot made FREE for an add, by eviction where R93 allows it; absent where the add is refused. -/
def roomForAdd (cls : AccessClass) (s : State) : Option State :=
  if !acceptsAdds s then none
  else if s.link.slots.length < Config.slotSize then some s
  else if cls = .urgent then
    match s.link.slots.find? evictable with
    | none => none
    | some x => some (noticeOutcome x.notice ⟨.cancelled .evicted, x.latch⟩ (removeSlot x.handle s))
  else none

/-- An add that is taken, with its handle, or refused (R93). -/
def slotAdd (n : Notice) (deadline : Option Count) (s : State) : Option (State × Nat) :=
  match roomForAdd (noticeClass n) s with
  | none => none
  | some s1 =>
    let x : Slot :=
      { handle := s1.link.nextHandle
        status := .pending
        notice := n
        deadline := deadline
        deadlineMet := false
        failedAttempts := 0
        latch := none }
    some ({ s1 with link.slots := s1.link.slots ++ [x], link.nextHandle := s1.link.nextHandle + 1 }, s1.link.nextHandle)

/-- A deadline that is there and reached. -/
def deadlineReached (deadline : Option Count) (s : State) : Bool :=
  match deadline with
  | none => false
  | some d => reached s d

/-- A block adds a notice other than a CLAIM: `refused` where the add is refused; an add whose deadline is already reached ends
STALE at once (R93). -/
def addNotice (n : Notice) (deadline : Option Count) (refused : State → State) (s : State) : State :=
  match slotAdd n deadline s with
  | none => refused s
  | some (s1, h) => if deadlineReached deadline s1 then noticeOutcome n ⟨.stale, none⟩ (removeSlot h s1) else s1

end Sys2Proof.Machine
end

