-- ==== Sys2Proof/Machine/ClaimUnit.lean ====
section
/-! DEFINITION. Departures and claims as the blocks share them: a track leaving the table (R52, R53, R146), an entry leaving the
schedule (R166), the own-claim records and the settling of a CLAIM (R131, R141, R142), and the RELEASE and FIRED requests
(R143, R144). -/

namespace Sys2Proof.Machine

/-! ### A track leaves the table -/

/-- A count bumped when a flag is set. -/
def bumpIf (f : Bool) (c : Tally) : Tally := if f then bump c else c

/-- The counts of a leaving track's flags (R53). -/
def countDeparture (t : Track) (s : State) : State :=
  { s with
    engine.unannounced := bumpIf t.unannounced s.engine.unannounced
    engine.crowded := bumpIf t.crowded s.engine.crowded
    engine.split := bumpIf t.split s.engine.split }

/-- The claim unit is told which track has left and under which IDs: its records are orphaned (R146). -/
def orphanRecords (t : Track) (s : State) : State :=
  { s with claim.ownClaims := s.claim.ownClaims.map fun r => if hasId r.id t then { r with orphan := true } else r }

/-- A track leaves by retirement, which also clears the table-full condition (R52, R53, R55). -/
def retire (t : Track) (s : State) : State :=
  let s1 := countDeparture t (removeTrack t.key s)
  orphanRecords t { s1 with engine.tableFull := false }

/-- A track's retirement count is reached: it retires, or its retirement is held by its firing link (R52). -/
def retireOrHold (t : Track) (s : State) : State :=
  if linked t.key s then modifyTrack t.key (fun u => { u with heldRetirement := true }) s else retire t s

/-- The firing link has been cleared: a held retirement is taken or dropped, and air supply control is told when the schedule
has become empty (R52, R166 step 3). -/
def linkCleared (key : Nat) (s : State) : State :=
  let s1 :=
    match trackAt key s with
    | none => s
    | some t =>
      if t.heldRetirement then
        if reached s (retirementCount s t) then retire t s
        else modifyTrack key (fun u => { u with heldRetirement := false }) s
      else s
  scheduleEmptied s1

/-! ### An entry leaves the schedule -/

/-- The margin an outcome record carries: 0 when the decision is UNDECIDED or OPEN (R194). -/
def decisionMargin : Decision → Nat
  | .decided _ m _ => m
  | .stillOpen | .undecided _ => 0

/-- The decision mode an outcome record carries: 0 (FULL) while the decision is OPEN (R194). -/
def decisionMode : Decision → Mode
  | .decided _ _ m => m
  | .undecided m => m
  | .stillOpen => .full

/-- The outcome record of a leaving entry (R166 step 1). -/
def entryRecord (e : Entry) (t : Track) (r : Result) (s : State) : OutcomeRecord where
  id := t.primary
  cls := e.cls
  mode := s.engine.mode
  decisionMode := decisionMode t.decision
  result := r
  trimmed := e.trimmed
  clamped := e.clamped
  cut := e.cut
  weak := e.weak
  lateEvidence := t.lateEvidence
  valveCount := valveCount e.valves
  openCount := e.openCount
  margin := decisionMargin t.decision

/-- Valve health puts a firing in its recent-firings list (R177). -/
def recordFiring (id : PieceId) (vs : ValveSet) (s : State) : State :=
  if s.valves.recent.length < Config.recentSize then { s with valves.recent := s.valves.recent ++ [(id, vs)] }
  else
    { s with
      valves.recent := s.valves.recent.drop 1 ++ [(id, vs)]
      valves.recentDrops := bump s.valves.recentDrops }

/-- A RELEASE or FIRED that finds no slot (R143, R144). -/
def countUnsent (s : State) : State := { s with claim.unsent := bump s.claim.unsent }

/-- The claim unit requests the FIRED of an entry that was OPEN; the close count is the belt count of closing (R144, R162). -/
def requestFired (e : Entry) (t : Track) (s : State) : State :=
  let info : FiredInfo :=
    { id := t.primary
      trimmed := e.trimmed
      clamped := e.clamped
      cut := e.cut
      weak := e.weak
      first := Fin.ofNat 64 (lowestValve e.valves)
      last := Fin.ofNat 64 (highestValve e.valves)
      valves := BitVec.ofNat 8 (valveCount e.valves) }
  addNotice (.fired s.belt.count info) (some (s.belt.count + counts (prof s).flightMax)) countUnsent s

/-- The entry is gone from the schedule. -/
def removeEntry (key : Nat) (s : State) : State :=
  { s with sched.entries := s.sched.entries.filter fun e => e.track ≠ key }

/-- An entry leaves the schedule in one step: its outcome record, the reports to valve health and the claim unit (`tell` is what
the claim unit does with a reason of the scheduler's own), and the cleared firing link (R166). -/
def leave (e : Entry) (r : Result) (tell : State → State) (s : State) : State :=
  match trackAt e.track s with
  | none => removeEntry e.track s
  | some t =>
    let s1 := putOutcome (entryRecord e t r s) (removeEntry e.track s)
    let s2 := if e.state = .opened then requestFired e t (recordFiring t.primary e.valves s1) else s1
    linkCleared e.track (tell s2)

/-- The schedule entry of a track. -/
def entryAt (key : Nat) (s : State) : Option Entry := s.sched.entries.find? (·.track = key)

/-- A drop request of the claim unit; it finds nothing when the entry has already left (R159). -/
def dropEntry (key : Nat) (r : Result) (s : State) : State :=
  match entryAt key s with
  | none => s
  | some e => leave e r id s

/-- An OPEN entry closes (R162). -/
def closeEntry (e : Entry) (r : Result) (cut : Bool) (s : State) : State :=
  let s1 := { s with sched.cut := bumpIf cut s.sched.cut, sched.interrupted := bumpIf (r = .interrupted) s.sched.interrupted }
  leave { e with cut := e.cut || cut } r id s1

/-- Every OPEN entry closes with result INTERRUPTED (R164, R167), in schedule order: the rules name no order (assumption
log 39). -/
def interruptAll (s : State) : State :=
  (s.sched.entries.filter fun e => e.state = .opened).foldl (fun a e => closeEntry e .interrupted false a) s

/-! ### Own-claim records (R131) -/

/-- The own-claim record that belongs to a track: the live track its piece ID names (R131). Where two records belong to one
track, the one put first: the rules do not say which (assumption log 38). -/
def recordOf (t : Track) (s : State) : Option OwnClaim := s.claim.ownClaims.find? fun r => hasId r.id t

/-- Changes the record of one addition. -/
def modifyRecord (handle : Nat) (f : OwnClaim → OwnClaim) (s : State) : State :=
  { s with claim.ownClaims := s.claim.ownClaims.map fun r => if r.handle = handle then f r else r }

/-- Removes the record of one addition. -/
def removeRecord (handle : Nat) (s : State) : State :=
  { s with claim.ownClaims := s.claim.ownClaims.filter fun r => r.handle ≠ handle }

/-- Sets a track's own-state. -/
def setOwn (key : Nat) (o : OwnState) (s : State) : State := modifyTrack key (fun t => { t with own := o }) s

/-- The track to re-examine when a record is removed (R142): after RECLASSED or LOST, the piece not first owned by this
station. -/
def reexamineAfter (r : OwnClaim) (s : State) : Option Nat :=
  if r.metFirst then none
  else
    match r.giveUp, trackOf r.id s with
    | some .reclassed, some t => if t.own = .none then some t.key else none
    | some .lost, some t =>
      if t.own = .none && t.firedBy.isNone && s.port.station = .running then some t.key else none
    | _, _ => none

/-- The transmit outcome of an own CLAIM settles its record; gives the track to re-examine (R142). -/
def claimOutcome (handle : Nat) (report : TxReport) (s : State) : State × Option Nat :=
  match s.claim.ownClaims.find? (·.handle = handle) with
  | none => (s, none)
  | some r =>
    if reachedLine report.outcome then
      if r.met then (removeRecord handle s, reexamineAfter r s)
      else (modifyRecord handle (fun x => { x with outcomeTaken := true }) s, none)
    else
      let s1 := removeRecord handle s
      match r.giveUp, trackOf r.id s1 with
      | some _, _ => (s1, reexamineAfter r s1)
      | none, none => (s1, none)
      | none, some t => (dropEntry t.key (.claimLate (report.outcome = .failed)) (setOwn t.key .none s1), none)

/-- A held slot ends: it becomes FREE and its outcome reaches the requesting block with the slot's latch (R96); gives the track
to re-examine. -/
def endSlot (x : Slot) (o : TxOutcome) (s : State) : State × Option Nat :=
  let s1 := removeSlot x.handle s
  match x.notice with
  | .claim _ _ => claimOutcome x.handle ⟨o, x.latch⟩ s1
  | n => (noticeOutcome n ⟨o, x.latch⟩ s1, none)

/-- A requester's cancel through the handle (R95). -/
def cancelSlot (handle : Nat) (s : State) : State × Option Nat :=
  match slotAt handle s with
  | none => (s, none)
  | some x =>
    match x.status with
    | .pending => endSlot x (.cancelled .requested) s
    | .sending => (modifySlot handle (fun y => { y with status := .cancelPending }) s, none)
    | .cancelPending => (s, none)

/-- A pending claim is given up: the reason recorded, the own-state set and the slot cancelled (R139 to R141); gives the track
to re-examine. -/
def giveUpClaim (t : Track) (r : OwnClaim) (why : GiveUp) (own : OwnState) (s : State) : State × Option Nat :=
  cancelSlot r.handle (setOwn t.key own (modifyRecord r.handle (fun x => { x with giveUp := some why }) s))

/-- The scheduler has ended a RESERVED entry for a reason of its own (R141). -/
def schedulerGaveUp (key : Nat) (why : GiveUp) (s : State) : State :=
  match trackAt key s with
  | none => s
  | some t =>
    match recordOf t s with
    | none => s
    | some r => (giveUpClaim t r why .none s).1

/-! ### RELEASE (R143) -/

/-- The reason a RELEASE carries for a give-up reason (R138). -/
def releaseFor : GiveUp → ReleaseReason
  | .reclassed => .reclassed
  | .displaced => .displaced
  | .supply => .supply
  | .noValve => .noValve
  | .stopped => .stopped
  | .halted => .halted
  | .late => .noValve
  | .lost => .displaced

/-- The claim unit requests a RELEASE: RELEASED_BY_SELF whether or not the add is taken (R143). -/
def requestRelease (key : Nat) (why : ReleaseReason) (s : State) : State :=
  match trackAt key s with
  | none => s
  | some t => addNotice (.release t.primary why) none countUnsent (setOwn key .releasedBySelf s)

/-- The scheduler ends a RESERVED or ARMED entry for a reason of its own: the pending claim is given up, or the piece released
(R141, R143, R166). -/
def schedulerEnds (e : Entry) (r : Result) (why : GiveUp) (s : State) : State :=
  match e.state with
  | .reserved => leave e r (schedulerGaveUp e.track why) s
  | .armed => leave e r (requestRelease e.track (releaseFor why)) s
  | .opened => leave e r id s

end Sys2Proof.Machine
end

