-- ==== Sys2Proof/Machine/Scheduler.lean ====
section
/-! DEFINITION. What the firing scheduler computes and decides: supply changes (R167, R180 to R183), the window (R152, R153), the
valve set (R155), supply feasibility (R156), plenum admission (R157, R158), and the request for an entry (R151). -/

namespace Sys2Proof.Machine

/-! ### Supply changes -/

/-- The scheduler's reaction to a new supply state (R167), entries in schedule order: the rule names no order (assumption
log 39). -/
def supplyReaction (new : Supply) (s : State) : State :=
  match new with
  | .ready => s
  | .low =>
    { s with sched.entries := s.sched.entries.map fun e => if e.state = .opened then { e with weak := true } else e }
  | .fault =>
    interruptAll
      ((s.sched.entries.filter fun e => e.state ≠ .opened).foldl
        (fun a e => schedulerEnds e (.notFired .supply) .supply a) s)
  | .standby | .charging => interruptAll s

/-- A change of supply state, reported at once to the scheduler (R180). -/
def supplyTo (new : Supply) (s : State) : State :=
  if s.air.supply = new then s else supplyReaction new { s with air.supply := new }

/-- CHARGING becomes READY: the charge timer stops and, with an empty schedule, the standby timer starts (R181, R182). -/
def chargedUp (s : State) : State :=
  let s1 := supplyTo .ready { s with air.chargeTimer := none }
  if s1.sched.entries.isEmpty then startStandbyTimer s1 else s1

/-- A request reported to air supply control (R151, R181). -/
def supplyRequested (s : State) : State :=
  if (prof s).eject && s.air.supply = .standby then
    let s1 := supplyTo .charging s
    let s2 := { s1 with air.chargeTimer := some (s1.clock + 2 * (prof s).chargeTime * Config.ticksPerMs) }
    if s2.air.pressureOk then chargedUp s2 else s2
  else s

/-! ### The window (R152, R153) -/

/-- A time in tenths of a millisecond as counts, rounded up (R152). -/
def tenthsUp (t speed : Nat) : Nat := (t * speed + 159) / 160

/-- A time in tenths of a millisecond as counts, rounded down (R152). -/
def tenthsDown (t speed : Nat) : Nat := t * speed / 160

/-- A firing window with the pulse bounds it was computed with. -/
structure Window where
  openCount : Count
  closeCount : Count
  pMin : Nat
  pMax : Nat
  clamped : Bool
deriving DecidableEq, Repr

/-- The window of a piece for a class (R152), its pulse brought within its bounds (R153). -/
def windowOf (p : Profile) (speed : Nat) (d : Count) (length : Nat) (c : ClassCode) : Window :=
  let pMin := tenthsUp p.minOnTime speed
  let pMax := tenthsDown p.maxOnTime speed
  let first := d + counts p.barOffset - counts p.marginFront[c] - counts (tenthsUp p.openLatency speed)
  let close := d + counts p.barOffset + counts length + counts p.marginRear[c] - counts (tenthsDown p.closeLatency speed)
  let pulse := signedDiff close first
  if pulse < pMin then ⟨first, first + counts pMin, pMin, pMax, false⟩
  else if pMin ≤ pMax then
    if pMax < pulse then ⟨first, first + counts pMax, pMin, pMax, true⟩ else ⟨first, close, pMin, pMax, false⟩
  else if pMin < pulse then ⟨first, first + counts pMin, pMin, pMax, true⟩
  else ⟨first, close, pMin, pMax, false⟩

/-! ### The valve set (R155) -/

/-- The valve that fires for a taken valve: itself, its cover, or none (R155 step 3). -/
def firingValve (m : ValveMap) (v : Fin 64) : ValveSet :=
  match m.valve[v].descriptor with
  | .active => valveBit v
  | .coveredLeft => valveBit (v - 1 : Nat)
  | .coveredRight => valveBit (v + 1 : Nat)
  | .retired => 0

/-- The valve set of a piece's lanes widened by the lateral margin (R155). -/
def valveSetOf (m : ValveMap) (margin laneLo laneHi : Nat) : ValveSet :=
  let first := (laneLo - margin) / 4
  let last := min 255 (laneHi + margin) / 4
  (List.finRange 64).foldl
    (fun (vs : ValveSet) (v : Fin 64) => if first ≤ v.val && v.val ≤ last then vs ||| firingValve m v else vs) 0

/-! ### Supply feasibility (R156) -/

/-- The supply can be ready at the open count (R156). -/
def supplyFeasible (s : State) (openCount : Count) : Bool :=
  match s.air.supply with
  | .fault => false
  | .ready | .low => true
  | .standby | .charging => tenthsUp (10 * (prof s).chargeTime) s.belt.speed ≤ signedDiff openCount s.belt.count

/-! ### Plenum admission (R157, R158) -/

/-- An entry's load set: its drive set while OPEN, else its valve set (R157). -/
def loadSet (e : Entry) : ValveSet := if e.state = .opened then e.drive else e.valves

/-- A window contains a count: from its open count up to but not including its close count (R149). -/
def windowHolds (openCount closeCount x : Count) : Bool := 0 ≤ signedDiff x openCount && signedDiff x closeCount < 0

/-- Two windows overlap (R149). -/
def overlaps (w : Window) (e : Entry) : Bool :=
  signedDiff e.openCount w.closeCount < 0 && signedDiff w.openCount e.closeCount < 0

/-- The load at a count with a new valve set (R157). -/
def loadAt (entries : List Entry) (vs : ValveSet) (x : Count) : Nat :=
  valveCount
    (entries.foldl (fun a e => if windowHolds e.openCount e.closeCount x then a ||| loadSet e else a) vs)

/-- The peak load of a new window: met at its open count or at the open count of an entry within it (R157). -/
def peakLoad (entries : List Entry) (w : Window) (vs : ValveSet) : Nat :=
  let marks := w.openCount :: (entries.map (·.openCount)).filter (windowHolds w.openCount w.closeCount)
  marks.foldl (fun m x => max m (loadAt entries vs x)) 0

/-- The edge valve to remove: the one farther from the centre, the lower-numbered on a tie (R157). -/
def edgeValve (centre : Nat) (vs : ValveSet) : Nat :=
  let lo := lowestValve vs
  let hi := highestValve vs
  if ((lo : Int) - centre).natAbs < ((hi : Int) - centre).natAbs then hi else lo

/-- Trimming edge by edge until the peak load fits or the core width is reached; `fuel` bounds the removals (R157). -/
def trimSet (entries : List Entry) (w : Window) (limit core centre : Nat) : Nat → ValveSet → ValveSet
  | 0, vs => vs
  | fuel + 1, vs =>
    if peakLoad entries w vs ≤ limit || valveCount vs ≤ core then vs
    else trimSet entries w limit core centre fuel (vs &&& ~~~ (valveBit (edgeValve centre vs)))

/-- An entry a request of this priority may displace (R158). -/
def displaceable (w : Window) (priority : Nat) (e : Entry) : Bool :=
  e.state ≠ .opened && overlaps w e && e.priority < priority

/-- Candidates in removal order: lowest priority first and, among equal priority, latest open count first; equal open counts in
reverse schedule order (R158, assumption log 18). -/
def removalOrder (candidates : List Entry) : List Entry :=
  candidates.foldl
    (fun order e =>
      insertBefore (fun y => e.priority < y.priority || (e.priority = y.priority && !(isAfter y.openCount e.openCount))) e
        order) []

/-- The candidates removed one at a time until the peak load fits (R158). -/
def displacedBy (w : Window) (vs : ValveSet) (limit : Nat) : List Entry → List Entry → List Entry
  | [], _ => []
  | c :: cs, entries =>
    if peakLoad entries w vs ≤ limit then []
    else c :: displacedBy w vs limit cs (entries.filter fun e => e.track ≠ c.track)

/-- The scheduler's answer to a request (R151): a refusal with its reason and two figures, or the admitted open count. -/
inductive Answer where
  | refused (reason : NotFired) (openCount : Count) (valves : Nat)
  | admitted (openCount : Count)
deriving DecidableEq, Repr

/-- A new entry enters the schedule in its place (R149, R158), the standby timer stopping if the schedule was empty (R182). -/
def admitEntry (e : Entry) (s : State) : State :=
  let s1 := if s.sched.entries.isEmpty then stopStandbyTimer s else s
  let s2 :=
    { s1 with
      sched.entries := insertBefore (fun y => isAfter y.openCount e.openCount) e s1.sched.entries
      sched.admitted := bump s1.sched.admitted
      sched.trimmed := bumpIf e.trimmed s1.sched.trimmed }
  s2

/-- One displaced entry leaves (R158). -/
def displace (s : State) (e : Entry) : State :=
  schedulerEnds e .displaced .displaced { s with sched.displaced := bump s.sched.displaced }

/-- Plenum admission of a window and set that passed the earlier checks (R157, R158). -/
def admission (t : Track) (c : ClassCode) (w : Window) (vs : ValveSet) (s : State) : State × Answer :=
  let p := prof s
  let limit := p.plenumLimit
  let entries := s.sched.entries
  let kept := trimSet entries w limit p.coreWidth ((t.laneLo + t.laneHi) / 2 / 4) 64 vs
  let candidates := entries.filter (displaceable w p.priority[c])
  let rest := entries.filter fun e => !displaceable w p.priority[c] e
  let e : Entry :=
    { track := t.key
      cls := c
      priority := p.priority[c]
      state := .reserved
      openCount := w.openCount
      closeCount := w.closeCount
      pMin := w.pMin
      pMax := w.pMax
      valves := kept
      drive := 0
      trimmed := kept ≠ vs
      clamped := w.clamped
      cut := false
      weak := false
      guard := none }
  if limit < peakLoad rest w kept then (s, .refused .plenum w.openCount (valveCount vs))
  else
    let out := displacedBy w kept limit (removalOrder candidates) entries
    let s1 := out.foldl displace s
    let s2 := { s1 with sched.lastPeak := peakLoad s1.sched.entries w kept }
    (admitEntry e s2, .admitted w.openCount)

/-- The request for an entry: reported to air supply control, then checked in the order of R151. -/
def requestEntry (t : Track) (c : ClassCode) (s0 : State) : State × Answer :=
  let s := supplyRequested s0
  let w := windowOf (prof s) s.belt.speed t.d t.length c
  let vs := valveSetOf s.valves (prof s).marginLat t.laneLo t.laneHi
  let refuse := fun (why : NotFired) => (s, Answer.refused why w.openCount (valveCount vs))
  if s.belt.motion ≠ .running then refuse .slow
  else if reached s w.openCount then refuse .late
  else if vs = 0 then refuse .noValve
  else if !supplyFeasible s w.openCount then refuse .supply
  else if Config.scheduleSize ≤ s.sched.entries.length then refuse .plenum
  else admission t c w vs s

/-! ### Opening (R160) -/

/-- One more firing of a valve, staying at 4,294,967,295 (R176). -/
def firedOnce (v : Valve) : Valve := { v with fired := if v.fired = 0xFFFFFFFF#32 then v.fired else v.fired + 1 }

/-- One firing counted for each valve of a set (R176). -/
def countFirings (vs : ValveSet) (m : ValveMap) : ValveMap :=
  { m with valve := Vector.ofFn fun (v : Fin 64) => if vs.getLsbD v then firedOnce m.valve[v] else m.valve[v] }

/-- Replaces a schedule entry in its place. -/
def setEntry (e : Entry) (s : State) : State :=
  { s with sched.entries := s.sched.entries.map fun x => if x.track = e.track then e else x }

/-- The open check of an ARMED entry (R160). -/
def openCheck (e : Entry) (s : State) : State :=
  if s.belt.motion ≠ .running then schedulerEnds e (.notFired .stopped) .stopped s
  else
    let e1 := { e with valves := e.valves &&& activeValves s }
    if e1.valves = 0 then schedulerEnds e1 (.notFired .noValve) .noValve s
    else if s.air.supply = .ready || s.air.supply = .low then
      let e2 :=
        { e1 with
          state := .opened
          drive := e1.valves
          weak := e1.weak || s.air.supply = .low
          guard := some (s.clock + (prof s).maxOnTime) }
      { setEntry e2 s with valves := countFirings e2.valves s.valves }
    else schedulerEnds e1 (.notFired .supply) .supply s

/-- The arm request of the claim unit: a RESERVED entry becomes ARMED (R159). -/
def armEntry (key : Nat) (s : State) : State :=
  { s with
    sched.entries :=
      s.sched.entries.map fun e => if e.track = key && e.state = .reserved then { e with state := .armed } else e }

end Sys2Proof.Machine
end

