-- ==== Sys2Proof/Machine/AirSupply.lean ====
section
/-! DEFINITION. Air supply control (10 §10.5): the pressure-ok line and the two timers. The request of R181 is in
Machine/Scheduler.lean. -/

namespace Sys2Proof.Machine

/-- Pressure-ok becomes active (R181, R182). -/
def pressureUp (s : State) : State :=
  match s.air.supply with
  | .charging => chargedUp s
  | .low => supplyTo .ready s
  | .standby | .ready | .fault => s

/-- Pressure-ok becomes inactive (R182). -/
def pressureDown (s : State) : State :=
  match s.air.supply with
  | .ready => supplyTo .low s
  | .standby | .charging | .low | .fault => s

/-- PRESSURE_OK_ACTIVE (R180 to R182): the line's level is kept at every station; the supply acts on it at an EJECT station. -/
def execPressureOkActive (s : State) : Host.Outcome State Fault Refusal :=
  let s1 := { s with air.pressureOk := true }
  if (prof s).eject then .next (syncBar (pressureUp s1)) else .next s1

/-- PRESSURE_OK_INACTIVE (R180, R182). -/
def execPressureOkInactive (s : State) : Host.Outcome State Fault Refusal :=
  let s1 := { s with air.pressureOk := false }
  if (prof s).eject then .next (syncBar (pressureDown s1)) else .next s1

/-- CHARGE_TIMER_EXPIRY (R183). -/
def execChargeTimerExpiry (s : State) : Host.Outcome State Fault Refusal :=
  match s.air.supply, s.air.chargeTimer with
  | .charging, some t =>
    let s1 := { clockTo t s with air.chargeTimer := none, air.faults := bump s.air.faults }
    .next (syncBar (supplyTo .fault (raiseFlag .supplyFault s1)))
  | _, _ => .next s

/-- The standby timer has run out: STANDBY, the pilot closed (R182). -/
def standDown (t : Nat) (s : State) : State :=
  supplyTo .standby { clockTo t s with air.standbyTimer := none, air.standbyDue := none }

/-- The time the standby timer runs out, or ran out at the very moment an admission stopped it (R182). -/
def standbyEnd (s : State) : Option Nat :=
  match s.air.standbyTimer with
  | some t => some t
  | none => if s.air.standbyDue = some s.clock then some s.clock else none

/-- STANDBY_TIMER_EXPIRY (R182). -/
def execStandbyTimerExpiry (s : State) : Host.Outcome State Fault Refusal :=
  match standbyEnd s with
  | none => .next s
  | some t =>
    if s.air.supply = .ready || s.air.supply = .low then .next (syncBar (standDown t s)) else .next s

end Sys2Proof.Machine
end

