-- ==== Sys2Proof/Machine/ChuteCheck.lean ====
section
/-! DEFINITION. The chute check unit (10 §10.6): firings heard, arrivals, and what becomes of those that do not meet. -/

namespace Sys2Proof.Machine

/-- A count lies in a closed window, both ends by signed difference (R184). -/
def inWindow (earliest latest x : Count) : Bool := 0 ≤ signedDiff x earliest && signedDiff x latest ≤ 0

/-- The oldest of some expectations: the one with the least age. -/
def oldestOf : List Expectation → Option Expectation
  | [] => none
  | e :: es => some (es.foldl (fun b x => if x.age < b.age then x else b) e)

/-- The list without the expectation of an age; ages are not shared. -/
def dropAge (age : Nat) (list : List Expectation) : List Expectation := list.filter fun e => e.age ≠ age

/-- One CONFIRM that does not reach the line (R187). -/
def countConfirmUnsent (s : State) : State := { s with chute.confirmUnsent := bump s.chute.confirmUnsent }

/-- The request's count by its result (R187). -/
def countConfirm (result : ConfirmResult) (s : State) : State :=
  match result with
  | .arrived => { s with chute.arrived := bump s.chute.arrived }
  | .absent => { s with chute.absent := bump s.chute.absent }

/-- A CONFIRM is requested (R187). -/
def requestConfirm (id : PieceId) (result : ConfirmResult) (s : State) : State :=
  addNotice (.confirm id (prof s).watchedChute result) none countConfirmUnsent (countConfirm result s)

/-- One stray counted. -/
def countStray (s : State) : State := { s with chute.strays := bump s.chute.strays }

/-- An expectation enters the list in its place (10 §10.6). -/
def placeExpectation (e : Expectation) (list : List Expectation) : List Expectation :=
  insertBefore (fun y => isAfter y.earliest e.earliest) e list

/-- Room in the expectation list: at 16 the oldest is removed without a CONFIRM (R184). -/
def roomForExpectation (s : State) : State :=
  if s.chute.expectations.length < Config.expectationSize then s
  else
    match oldestOf s.chute.expectations with
    | none => s
    | some old =>
      { s with
        chute.expectations := dropAge old.age s.chute.expectations
        chute.expectationDrops := bump s.chute.expectationDrops }

/-- An expectation is put; one whose latest count is already reached expires at once (R184, R186). -/
def putExpectation (id : PieceId) (earliest latest : Count) (s : State) : State :=
  let s1 := roomForExpectation s
  let e : Expectation := { id := id, earliest := earliest, latest := latest, age := s1.chute.nextAge }
  if reached s latest then requestConfirm id .absent { s1 with chute.nextAge := s1.chute.nextAge + 1 }
  else
    { s1 with
      chute.expectations := placeExpectation e s1.chute.expectations
      chute.nextAge := s1.chute.nextAge + 1 }

/-- The held arrival a window takes: the oldest that lies in it (R184). -/
def matchHeld (earliest latest : Count) (s : State) : Option (HeldArrival × List HeldArrival) :=
  takeFirst (fun a => inWindow earliest latest a.count) s.chute.held

/-- A FIRED of the watched bar, its close count recovered (R184). -/
def watchedFired (id : PieceId) (close : Count) (s : State) : State :=
  let earliest := close + counts (prof s).flightMin
  let latest := close + counts (prof s).flightMax
  match matchHeld earliest latest s with
  | some (_, rest) => requestConfirm id .arrived { s with chute.held := rest }
  | none => putExpectation id earliest latest s

/-- The chute check unit takes a FIRED entry (R184). -/
def chuteTakesFired (id : PieceId) (origin : Node) (latch : Count) (countsSince : BitVec 16) (s : State) : State :=
  if origin = (prof s).watchedBar then
    watchedFired id (latch - countsSince.setWidth 32) { s with chute.firedTaken := bump s.chute.firedTaken }
  else s

/-! ### Arrivals (R185) -/

/-- The expectation an arrival confirms: the oldest whose window contains its count (R185). -/
def matchExpectation (x : Count) (s : State) : Option Expectation :=
  oldestOf (s.chute.expectations.filter fun e => inWindow e.earliest e.latest x)

/-- An arrival is held; at 8 the oldest leaves as a stray first (R185). -/
def holdArrival (x : Count) (s : State) : State :=
  let a : HeldArrival := { count := x, leave := x + counts (prof s).flightMax }
  if s.chute.held.length < Config.heldSize then { s with chute.held := s.chute.held ++ [a] }
  else countStray { s with chute.held := s.chute.held.drop 1 ++ [a] }

/-- An arrival entry in the chute check unit's hands (R185). -/
def takeArrival (a : Arrival) (s : State) : State :=
  if a.chute ≠ (prof s).watchedChute then { s with chute.otherChute := bump s.chute.otherChute }
  else
    match matchExpectation a.count s with
    | some e => requestConfirm e.id .arrived { s with chute.expectations := dropAge e.age s.chute.expectations }
    | none => holdArrival a.count s

/-- The entry is an arrival. -/
def isArrivalEntry : IntakeEntry → Bool
  | .arrival _ => true
  | .detection _ => false

/-! ### The commands -/

/-- ARRIVAL_ENTRY_TAKEN (R21, R185). -/
def execArrivalEntryTaken (s : State) : Host.Outcome State Fault Refusal :=
  if working s then
    match takeFirst isArrivalEntry s.intake.queue with
    | some (.arrival a, rest) => .next (takeArrival a { s with intake.queue := rest })
    | _ => .next s
  else .next s

/-- An expectation with this piece ID is due (R186). -/
def expectationDue (id : PieceId) (s : State) (e : Expectation) : Bool := e.id = id && reached s e.latest

/-- EXPECTATION_EXPIRY (R186) of the first due expectation with this piece ID. -/
def execExpectationExpiry (id : PieceId) (s : State) : Host.Outcome State Fault Refusal :=
  if working s then
    match takeFirst (expectationDue id s) s.chute.expectations with
    | none => .next s
    | some (e, rest) => .next (requestConfirm e.id .absent { s with chute.expectations := rest })
  else .next s

/-- HELD_ARRIVAL_LEAVE (R186) of the oldest due held arrival. -/
def execHeldArrivalLeave (s : State) : Host.Outcome State Fault Refusal :=
  if working s then
    match takeFirst (fun a => reached s a.leave) s.chute.held with
    | none => .next s
    | some (_, rest) => .next (countStray { s with chute.held := rest })
  else .next s

end Sys2Proof.Machine
end

