-- ==== Sys2Proof/Machine/Claiming.lean ====
section
/-! DEFINITION. Turning decisions into claims: eligibility (R136), the claim request (R137), the decision hand-off (R136, R140),
and meeting CLAIM, RELEASE and FIRED in bus order (R132 to R135, R138, R139). -/

namespace Sys2Proof.Machine

/-! ### Eligibility and the request -/

/-- A class is a member of a class set. -/
def inClassSet (set : ClassSet) (c : ClassCode) : Bool := set.getLsbD c

/-- The station-side conditions of eligibility: CLUSTER, URGENT_OVERRUN, the link and the station state (R136). -/
def claimAllowed (t : Track) (s : State) : Bool :=
  (!t.cluster || (prof s).clusterPolicy = .eject) && !s.accept.overrun && s.link.state = .active
    && s.port.station = .running

/-- The class is one this bar takes for this track: in T, or in F and adopted or released by another (R136). -/
def targeted (t : Track) (c : ClassCode) (s : State) : Bool :=
  inClassSet (prof s).primary c
    || (inClassSet (prof s).fallback c && (inClassSet s.members.adopted c || !t.releasedBy.isEmpty))

/-- The outcome record of a refused request (R137, R194). -/
def refusalRecord (t : Track) (c : ClassCode) (why : NotFired) (openCount : Count) (valves : Nat) (s : State) :
    OutcomeRecord where
  id := t.primary
  cls := c
  mode := s.engine.mode
  decisionMode := decisionMode t.decision
  result := .notFired why
  trimmed := false
  clamped := false
  cut := false
  weak := false
  lateEvidence := false
  valveCount := valves
  openCount := openCount
  margin := decisionMargin t.decision

/-- The CLAIM of an admitted entry is added: PENDING with a record, or the entry dropped CLAIM_LATE (R137). An add whose deadline
is already reached ends STALE at once and is dealt with under R142. -/
def addClaim (t : Track) (c : ClassCode) (openCount : Count) (s : State) : State :=
  let deadline := some (openCount - counts (prof s).claimLead)
  match slotAdd (.claim t.primary c) deadline s with
  | none => dropEntry t.key (.claimLate false) s
  | some (s1, h) =>
    let r : OwnClaim :=
      { id := t.primary
        cls := c
        handle := h
        outcomeTaken := false
        met := false
        metFirst := false
        giveUp := none
        orphan := false }
    let s2 := setOwn t.key .pending { s1 with claim.ownClaims := s1.claim.ownClaims ++ [r] }
    if deadlineReached deadline s2 then (claimOutcome h ⟨.stale, none⟩ (removeSlot h s2)).1 else s2

/-- The claim request for an eligible track (R137). -/
def claimRequest (t : Track) (c : ClassCode) (s : State) : State :=
  match requestEntry t c s with
  | (s1, .refused why openCount valves) => putOutcome (refusalRecord t c why openCount valves s1) s1
  | (s1, .admitted openCount) => addClaim t c openCount s1

/-- The examination of a track for a claim (R136). -/
def examine (key : Nat) (s : State) : State :=
  match trackAt key s with
  | none => s
  | some t =>
    if (recordOf t s).isSome || !(prof s).eject then s
    else
      match t.decision with
      | .stillOpen | .undecided _ => s
      | .decided c _ _ =>
        if claimAllowed t s then
          if targeted t c s && t.owner.isNone then claimRequest t c s else s
        else if inClassSet (prof s).primary c || inClassSet (prof s).fallback c then
          { s with claim.withheld := bump s.claim.withheld }
        else s

/-- The re-examination R142 calls for when a record is removed. -/
def examineIf (r : State × Option Nat) : State :=
  match r.2 with
  | none => r.1
  | some key => examine key r.1

/-! ### The decision hand-off (R65, R136, R140) -/

/-- Cause of an evaluation (R65). -/
inductive EvalCause where
  | contribution
  | decisionPoint
deriving DecidableEq, Repr

/-- The class of a DECIDED decision. -/
def decidedClass : Decision → Option ClassCode
  | .decided c _ _ => some c
  | .stillOpen | .undecided _ => none

/-- A hand-off is an occasion to examine a track with own-state NONE (R136). -/
def isOccasion (previous new : Decision) (cause : EvalCause) : Bool :=
  cause = .decisionPoint || ((decidedClass new).isSome && decidedClass previous ≠ decidedClass new)

/-- The claim unit acts on a decision hand-off (R136, R140). -/
def handOff (key : Nat) (previous : Decision) (cause : EvalCause) (s : State) : State :=
  match trackAt key s with
  | none => s
  | some t =>
    match t.own with
    | .none => if isOccasion previous t.decision cause then examine key s else s
    | .pending =>
      match recordOf t s with
      | none => s
      | some r =>
        if decidedClass t.decision = some r.cls then s
        else
          let s1 := modifyRecord r.handle (fun x => { x with giveUp := some .reclassed }) (setOwn key .none s)
          examineIf (cancelSlot r.handle (dropEntry key .reclassed s1))
    | .owned | .lost | .releasedBySelf => s

/-! ### The urgent queue (R132 to R135) -/

/-- The record is removed once both its outcome and its meeting have been taken (R131, R142). -/
def settleMet (handle : Nat) (s : State) : State × Option Nat :=
  match s.claim.ownClaims.find? (·.handle = handle) with
  | none => (s, none)
  | some r => if r.met && r.outcomeTaken then (removeRecord handle s, reexamineAfter r s) else (s, none)

/-- The unmet record of an own CLAIM with this piece ID. -/
def unmetRecord (id : PieceId) (s : State) : Option OwnClaim := s.claim.ownClaims.find? fun r => r.id = id && !r.met

/-- The reason of the RELEASE for a piece owned after a give-up: HALTED while HALTING (R147), else by the table of R138. -/
def giveUpRelease (why : GiveUp) (s : State) : ReleaseReason :=
  if s.port.station = .halting then .halted else releaseFor why

/-- An own CLAIM is met first for a live track (R138, R146). -/
def ownClaimFirst (key : Nat) (id : PieceId) (s : State) : State :=
  match unmetRecord id s with
  | none => s
  | some r =>
    let s1 := modifyRecord r.handle (fun x => { x with met := true, metFirst := true }) s
    let s2 :=
      if r.orphan then { s1 with claim.orphan := bump s1.claim.orphan }
      else
        match r.giveUp with
        | none => armEntry key (setOwn key .owned { s1 with claim.won := bump s1.claim.won })
        | some why => requestRelease key (giveUpRelease why s1) s1
    examineIf (settleMet r.handle s2)

/-- An own CLAIM is met without becoming first: second in bus order, or for a piece that has left the table (R138, R146). -/
def ownClaimNotFirst (id : PieceId) (s : State) : State :=
  match unmetRecord id s with
  | none => s
  | some r =>
    let s1 := modifyRecord r.handle (fun x => { x with met := true }) s
    let s2 := if r.orphan then { s1 with claim.orphan := bump s1.claim.orphan } else s1
    examineIf (settleMet r.handle s2)

/-- A foreign CLAIM sets the owner of a track with a pending claim (R139). -/
def foreignClaimFirst (t : Track) (origin : Node) (s : State) : State :=
  if t.own = .pending then
    let s1 := setOwn t.key .lost { s with claim.lost := bump s.claim.lost }
    match recordOf t s1 with
    | none => s1
    | some r =>
      let s2 := modifyRecord r.handle (fun x => { x with giveUp := some .lost }) s1
      examineIf (cancelSlot r.handle (dropEntry t.key (.claimLost origin) s2))
  else s

/-- One unknown ID counted. -/
def countUnknownId (s : State) : State := { s with claim.unknownId := bump s.claim.unknownId }

/-- One ignored notice counted. -/
def countIgnored (s : State) : State := { s with claim.ignored := bump s.claim.ignored }

/-- A CLAIM is applied at its place in bus order (R132, R138, R139). -/
def applyClaim (id : PieceId) (origin : Node) (own : Bool) (s : State) : State :=
  if !keepsTracks s then s
  else
    match trackOf id s with
    | none =>
      let s1 := countUnknownId s
      if own then ownClaimNotFirst id s1 else s1
    | some t =>
      match t.owner with
      | none =>
        let s1 := modifyTrack t.key (fun u => { u with owner := some origin }) s
        if own then ownClaimFirst t.key id s1 else foreignClaimFirst t origin s1
      | some _ =>
        let s1 := countIgnored s
        if own then ownClaimNotFirst id s1 else s1

/-- The owner is cleared and joins released-by (R133). -/
def releaseTrack (origin : Node) (t : Track) : Track :=
  { t with
    owner := none
    releasedBy := if t.releasedBy.contains origin then t.releasedBy else t.releasedBy ++ [origin] }

/-- A RELEASE is applied at its place in bus order (R133). -/
def applyRelease (id : PieceId) (origin : Node) (own : Bool) (s : State) : State :=
  if !keepsTracks s then s
  else
    match trackOf id s with
    | none => countUnknownId s
    | some t =>
      if t.owner = some origin then
        let s1 := modifyTrack t.key (releaseTrack origin) s
        if own || !(prof s).eject then s1
        else
          let s2 := if t.own = .lost then setOwn t.key .none s1 else s1
          if (t.own = .lost || t.own = .none) && t.firedBy.isNone && s.port.station = .running then examine t.key s2
          else s2
      else countIgnored s

/-- A FIRED is applied at its place in bus order (R134). -/
def applyFired (id : PieceId) (origin : Node) (s : State) : State :=
  if !keepsTracks s then s
  else
    match trackOf id s with
    | none => countUnknownId s
    | some t => modifyTrack t.key (fun u => { u with firedBy := some origin }) s

/-- A drop notice whose preceding entries are gone is applied as an entry (R135). -/
def applyDropNotice (s : State) (n : DropNotice) : State :=
  let own := (prof s).node
  match n.kind with
  | .claim => applyClaim n.id own true s
  | .release => applyRelease n.id own true s
  | .fired => applyFired n.id own s

/-- One more urgent queue entry has been removed: the drop notices whose number has been reached are applied in the order of
their drops (R135). -/
def advanceDropNotices (s : State) : State :=
  let counted := s.claim.dropNotices.map fun n => { n with remaining := n.remaining - 1 }
  let due := counted.filter fun n => n.remaining = 0
  due.foldl applyDropNotice { s with claim.dropNotices := counted.filter fun n => n.remaining ≠ 0 }

/-- A report of an own CLAIM that finds 16 drop notices waiting: the CLAIM is taken as not met first (R135). -/
def claimNeverFirst (id : PieceId) (s : State) : State :=
  match unmetRecord id s with
  | none => s
  | some r =>
    let s1 := modifyRecord r.handle (fun x => { x with met := true }) s
    let s2 :=
      match r.giveUp, trackOf id s1 with
      | none, some t => dropEntry t.key (.claimLate false) (setOwn t.key .none s1)
      | _, _ => s1
    examineIf (settleMet r.handle s2)

/-- The acceptance unit reports an own URGENT frame dropped at a full urgent queue (R112, R135). -/
def reportOwnDrop (kind : UrgentKind) (id : PieceId) (latch : Count) (s : State) : State :=
  if s.claim.dropNotices.length < Config.dropNoticeSize then
    let n : DropNotice := { kind := kind, id := id, latch := latch, remaining := s.accept.urgent.length }
    { s with claim.dropNotices := s.claim.dropNotices ++ [n] }
  else
    match kind with
    | .claim => claimNeverFirst id s
    | .release | .fired => s

/-- Kind and piece ID of an URGENT notice. -/
def urgentOf : Wire → Option (UrgentKind × PieceId)
  | .claim id _ => some (.claim, id)
  | .release id _ => some (.release, id)
  | .fired _ info => some (.fired, info.id)
  | .heartbeat _ | .piece _ _ | .confirm _ _ _ => none

/-- A CLAIM, RELEASE or FIRED joins the urgent queue, or is dropped with URGENT_OVERRUN (R107, R111, R112). -/
def joinUrgent (e : QueueEntry) (s : State) : State :=
  if s.accept.urgent.length < Config.urgentSize then { s with accept.urgent := s.accept.urgent ++ [e] }
  else
    let s1 := { s with accept.urgentDrop := bump s.accept.urgentDrop, accept.overrun := true }
    match e.own, urgentOf e.wire with
    | true, some (kind, id) => reportOwnDrop kind id e.latch { s1 with accept.ownDrop := bump s1.accept.ownDrop }
    | _, _ => s1

/-- The urgent queue without its head entry; URGENT_OVERRUN clears when it becomes empty (R111). -/
def urgentRest (rest : List QueueEntry) (s : State) : State :=
  { s with accept.urgent := rest, accept.overrun := s.accept.overrun && !rest.isEmpty }

end Sys2Proof.Machine
end

