-- ==== Sys2Proof/Machine/Claims.lean ====
section
/-! DEFINITION. The commands of the claim unit (chapter 8): the urgent queue is taken in its order, oldest first (R109). -/

namespace Sys2Proof.Machine

/-- CLAIM_ENTRY_TAKEN (R132, R138, R139), the oldest urgent entry being a CLAIM. -/
def execClaimEntryTaken (s : State) : Host.Outcome State Fault Refusal :=
  match s.accept.urgent with
  | [] => .next s
  | e :: rest =>
    match e.wire with
    | .claim id _ => .next (syncBar (advanceDropNotices (applyClaim id e.origin e.own (urgentRest rest s))))
    | .heartbeat _ | .piece _ _ | .release _ _ | .fired _ _ | .confirm _ _ _ => .next s

/-- RELEASE_ENTRY_TAKEN (R133), the oldest urgent entry being a RELEASE. -/
def execReleaseEntryTaken (s : State) : Host.Outcome State Fault Refusal :=
  match s.accept.urgent with
  | [] => .next s
  | e :: rest =>
    match e.wire with
    | .release id _ => .next (syncBar (advanceDropNotices (applyRelease id e.origin e.own (urgentRest rest s))))
    | .heartbeat _ | .piece _ _ | .claim _ _ | .fired _ _ | .confirm _ _ _ => .next s

/-- At a CHECK station a FIRED entry is handed to the chute check unit (R109, R134). -/
def handFired (id : PieceId) (origin : Node) (latch : Count) (countsSince : BitVec 16) (s : State) : State :=
  if (prof s).check then chuteTakesFired id origin latch countsSince s else s

/-- FIRED_ENTRY_TAKEN (R134), the oldest urgent entry being a FIRED. -/
def execFiredEntryTaken (s : State) : Host.Outcome State Fault Refusal :=
  match s.accept.urgent with
  | [] => .next s
  | e :: rest =>
    match e.wire with
    | .fired since info =>
      let s1 := applyFired info.id e.origin (urgentRest rest s)
      .next (syncBar (advanceDropNotices (handFired info.id e.origin e.latch since s1)))
    | .heartbeat _ | .piece _ _ | .claim _ _ | .release _ _ | .confirm _ _ _ => .next s

end Sys2Proof.Machine
end

