-- ==== Sys2Proof/Machine/Firing.lean ====
section
/-! DEFINITION. The commands of the firing scheduler (chapter 9): open counts, close counts and the guard. -/

namespace Sys2Proof.Machine

/-- The schedule entry of the track an ID names. -/
def entryOf (id : PieceId) (s : State) : Option Entry :=
  match trackOf id s with
  | none => none
  | some t => entryAt t.key s

/-- OPEN_COUNT_REACHED: a RESERVED entry leaves CLAIM_LATE (R161), an ARMED one meets the open check (R160). -/
def execOpenCountReached (id : PieceId) (s : State) : Host.Outcome State Fault Refusal :=
  match entryOf id s with
  | none => .next s
  | some e =>
    if reached s e.openCount then
      match e.state with
      | .reserved => .next (syncBar (schedulerEnds e (.claimLate false) .late s))
      | .armed => .next (syncBar (openCheck e s))
      | .opened => .next s
    else .next s

/-- CLOSE_COUNT_REACHED (R162). -/
def execCloseCountReached (id : PieceId) (s : State) : Host.Outcome State Fault Refusal :=
  match entryOf id s with
  | none => .next s
  | some e =>
    if e.state = .opened && reached s e.closeCount then .next (syncBar (closeEntry e .fired false s)) else .next s

/-- GUARD_EXPIRY (R162). -/
def execGuardExpiry (id : PieceId) (s : State) : Host.Outcome State Fault Refusal :=
  match entryOf id s with
  | none => .next s
  | some e =>
    match e.state, e.guard with
    | .opened, some t => .next (syncBar (closeEntry e .fired true (clockTo t s)))
    | _, _ => .next s

end Sys2Proof.Machine
end

