-- ==== Sys2Proof/Machine/Intake.lean ====
section
/-! DEFINITION. The detection intake (chapter 2): the checks of a complete record, its conversion and its place in the queue. -/

namespace Sys2Proof.Machine

/-- A scan number is ahead of the current scan (R10). -/
def scanAhead (s : State) (n : BitVec 16) : Bool := 0 < (n - s.belt.scanNumber).toInt

/-- The belt count a scan number was issued at, when it is in the ring (R10). -/
def scanCount (s : State) (n : BitVec 16) : Option Count := (s.belt.ring.find? (·.1 = n)).map (·.2)

/-- The record is a DETECTION (02 §2.2). -/
def isDetectionRecord (b : List Byte) : Bool := u8 b 0 / 16 = 1

/-- The conditions of a DETECTION record's own fields that make it MALFORMED (R16). -/
def detectionMalformed (b : List Byte) (s : State) : Bool :=
  u8 b 6 < u8 b 5 || (trailScan b - leadScan b).toInt < 0 || scanAhead s (trailScan b) || !(prof s).sense

/-- A complete record is MALFORMED (R16). -/
def malformed (b : List Byte) (partialByte : Bool) (s : State) : Bool :=
  partialByte || recordLength b ≠ some b.length || scanAhead s (leadScan b)
    || (if isDetectionRecord b then detectionMalformed b s else !(prof s).check)

/-- The counts the record's scans were issued at, absent where it is STALE (R17); an ARRIVAL's lead scan stands for both. -/
def scanCounts (b : List Byte) (s : State) : Option (Count × Count) :=
  match scanCount s (leadScan b), scanCount s (if isDetectionRecord b then trailScan b else leadScan b) with
  | some lead, some trail =>
    if (signedDiff lead s.belt.count).natAbs ≤ Config.staleDistance then some (lead, trail) else none
  | _, _ => none

/-- The length of a detection in counts (R18). -/
def detectionLength (lead trail : Count) (pitch : Nat) : Nat := max 1 (min 4095 (signedDiff trail lead + pitch)).toNat

/-- A good record converted (R18, R19). -/
def convert (b : List Byte) (lead trail : Count) (s : State) : IntakeEntry :=
  if isDetectionRecord b then
    .detection
      { d := lead
        length := detectionLength lead trail (prof s).scanPitch
        laneLo := u8 b 5
        laneHi := u8 b 6
        pairs := pairsAt b 7 (u8 b 0 % 8)
        cluster := bitAt b 0 3 }
  else .arrival { count := lead, chute := Fin.ofNat 4 (u8 b 0) }

/-- A good record's entry joins the queue; in HALTING a DETECTION is discarded uncounted (R20). -/
def queueRecord (b : List Byte) (lead trail : Count) (s : State) : State :=
  if isDetectionRecord b && s.port.station = .halting then s else joinIntake (convert b lead trail s) s

/-- A complete record in the intake's hands (R15 to R20). -/
def takeRecord (b : List Byte) (partialByte : Bool) (s : State) : State :=
  if working s then
    if malformed b partialByte s then { s with intake.malformed := bump s.intake.malformed }
    else
      match scanCounts b s with
      | none => { s with intake.stale := bump s.intake.stale }
      | some (lead, trail) => queueRecord b lead trail s
  else s

/-- Bytes shifted in while record enable stays asserted join the record in reception (R15). -/
def receive (bytes : List Byte) : Reception → Reception
  | .idle => .receiving bytes
  | .receiving b => .receiving (b ++ bytes)
  | .abandoned => .abandoned

/-- Record enable is released: the record, whole, in the intake's hands, or an abandoned one gone (R15). -/
def completeRecord (bytes : List Byte) (partialByte : Bool) (s : State) : State :=
  let s1 := { s with intake.reception := .idle }
  match s.intake.reception with
  | .idle => takeRecord bytes partialByte s1
  | .receiving b => takeRecord (b ++ bytes) partialByte s1
  | .abandoned => s1

/-- RECORD_COMPLETE (R15 to R20). -/
def execRecordComplete (bytes : List Byte) (ending : RecordEnd) (s : State) : Host.Outcome State Fault Refusal :=
  match ending with
  | .held => .next { s with intake.reception := receive bytes s.intake.reception }
  | .released partialByte => .next (completeRecord bytes partialByte s)

end Sys2Proof.Machine
end

