-- ==== Sys2Proof/Machine/Peers.lean ====
section
/-! DEFINITION. The membership unit (chapter 7): own heartbeats, the peer table, supervision and the two derived sets. -/

namespace Sys2Proof.Machine

/-! ### The derived sets (R123 to R125) -/

/-- The content of a slot that is present for decisions (R117). -/
def presentContent (p : Peer) : Option Heartbeat :=
  if presentForDecisions p.state then p.content else none

/-- A slot's member of the expected-contributor set (R124). -/
def expectedMember (peers : Vector Peer 16) (n : Fin 16) : Option (Node × BitVec 24) :=
  match presentContent peers[n] with
  | some h => if h.sense then some (n, h.datum) else none
  | none => none

/-- The expected-contributor set of a peer table (R124). -/
def expectedOf (peers : Vector Peer 16) : List (Node × BitVec 24) := (List.finRange 16).filterMap (expectedMember peers)

/-- The primary set a slot takes out of the adopted-class set (R125). -/
def barClasses (peers : Vector Peer 16) (n : Fin 16) : ClassSet :=
  match presentContent peers[n] with
  | some h => if h.eject then h.primary else 0
  | none => 0

/-- The adopted-class set of a fallback set and a peer table (R125). -/
def adoptedOf (fallback : ClassSet) (peers : Vector Peer 16) : ClassSet :=
  (List.finRange 16).foldl (fun (a : ClassSet) (n : Fin 16) => a &&& ~~~ (barClasses peers n)) fallback

/-- Both derived sets recomputed from the table as it stands (R123). -/
def recomputeSets (s : State) : State :=
  { s with
    members.expected := expectedOf s.members.peers
    members.adopted := adoptedOf (prof s).fallback s.members.peers }

/-! ### The peer table (R118 to R122) -/

/-- The slot of a node replaced. -/
def setPeer (n : Node) (p : Peer) (s : State) : State := { s with members.peers := s.members.peers.set n p }

/-- A slot's new state at a recorded heartbeat (R119). -/
def heardState : PeerState → PeerState
  | .absent => .joining1
  | .lost => .joining1
  | .joining1 => .joining2
  | .joining2 => .present
  | .present => .present
  | .doubtful1 => .present
  | .doubtful2 => .present

/-- A slot's new state at its supervision deadline, with its missed count (R120). -/
def missedState : PeerState → PeerState × Nat
  | .joining1 => (.absent, 1)
  | .joining2 => (.absent, 1)
  | .present => (.doubtful1, 1)
  | .doubtful1 => (.doubtful2, 2)
  | .doubtful2 => (.lost, 3)
  | .absent => (.absent, 0)
  | .lost => (.lost, 3)

/-- The change sets PEER_CHANGE: into or out of PRESENT, into or out of LOST (R122). -/
def isPeerChange (before after : PeerState) : Bool :=
  before ≠ after && (before = .present || after = .present || before = .lost || after = .lost)

/-- PEER_CHANGE for a change of a slot's state (R122). -/
def flagPeerChange (before after : PeerState) (s : State) : State :=
  if isPeerChange before after then raiseFlag .peerChange s else s

/-- Roles, datum, primary set or fallback set differ (R123). -/
def contentChanged (old new : Heartbeat) : Bool :=
  old.sense ≠ new.sense || old.eject ≠ new.eject || old.check ≠ new.check || old.datum ≠ new.datum
    || old.primary ≠ new.primary || old.fallback ≠ new.fallback

/-- The second cause of R123 holds for a heartbeat recorded in a slot. -/
def contentCause (p : Peer) (h : Heartbeat) : Bool :=
  match p.content with
  | none => false
  | some old => presentForDecisions (heardState p.state) && contentChanged old h

/-- A heartbeat recorded in its origin's slot (R118, R119, R122, R123). A period in ms is 10 times as many 0.1 ms. -/
def recordHeartbeat (n : Node) (h : Heartbeat) (s : State) : State :=
  let p := s.members.peers[n]
  let after := heardState p.state
  let slot : Peer :=
    { state := after
      content := some h
      arrival := some s.clock
      deadline := some (s.clock + 15 * h.period.toNat)
      missed := 0 }
  let s1 := flagPeerChange p.state after (setPeer n slot s)
  let s2 := if contentCause p h then { s1 with members.contentChange := bump s1.members.contentChange } else s1
  if presentForDecisions p.state ≠ presentForDecisions after || contentCause p h then recomputeSets s2 else s2

/-- The deadline after a supervision step (R120). -/
def nextDeadline (after : PeerState) (deadline : Nat) (content : Option Heartbeat) : Option Nat :=
  match after, content with
  | .doubtful1, some h => some (deadline + Config.ticksPerMs * h.period.toNat)
  | .doubtful2, some h => some (deadline + Config.ticksPerMs * h.period.toNat)
  | _, _ => none

/-- One supervision step of a slot at its deadline (R120, R122, R123). -/
def superviseSlot (n : Node) (deadline : Nat) (s : State) : State :=
  let p := s.members.peers[n]
  let after := missedState p.state
  let slot : Peer := { p with state := after.1, missed := after.2, deadline := nextDeadline after.1 deadline p.content }
  let s1 := flagPeerChange p.state after.1 (setPeer n slot s)
  if presentForDecisions p.state ≠ presentForDecisions after.1 then recomputeSets s1 else s1

/-- The supervision steps of a slot whose deadlines the clock has passed; from PRESENT there are three at most (R120). -/
def superviseOverdue (n : Node) : Nat → State → State
  | 0, s => s
  | fuel + 1, s =>
    match s.members.peers[n].deadline with
    | none => s
    | some t => if t < s.clock then superviseOverdue n fuel (superviseSlot n t s) else s

/-- A HEARTBEAT handed to the membership unit: one bearing the own node is recorded nowhere (R118). A heartbeat after its slot's
deadline finds the slot as the missed deadlines have left it (R119, R120); at the deadline itself either comes first (R121). -/
def takeHeartbeat (origin : Node) (h : Heartbeat) (s : State) : State :=
  if origin = (prof s).node then s else recordHeartbeat origin h (superviseOverdue origin 3 s)

/-- The table is emptied and the sets recomputed (R128). -/
def emptyTable (s : State) : State := recomputeSets { s with members.peers := Vector.replicate 16 Peer.empty }

/-! ### Own heartbeats (R102, R115, R116) -/

/-- The body of a heartbeat at the moment of adding (R102). -/
def buildHeartbeat (s : State) : Heartbeat where
  sense := (prof s).sense
  eject := (prof s).eject
  check := (prof s).check
  period := BitVec.ofNat 8 (prof s).heartbeatPeriod
  datum := (prof s).datum
  speed := BitVec.ofNat 12 s.belt.speed
  primary := (prof s).primary
  fallback := (prof s).fallback
  mode := s.engine.mode
  overrun := s.accept.overrun
  trackFull := s.engine.tableFull
  supply := s.air.supply

/-- A heartbeat built and added, or skipped (R115, R116). -/
def addHeartbeat (s : State) : State :=
  match slotAdd (.heartbeat (buildHeartbeat s)) none s with
  | none => { s with members.skipped := bump s.members.skipped }
  | some (s1, h) => { s1 with members.heartbeatHandle := some h }

/-- The previous heartbeat cancelled if its addition has not ended (R115). -/
def cancelHeartbeat (s : State) : State :=
  match s.members.heartbeatHandle with
  | none => s
  | some h => (cancelSlot h s).1

/-- The heartbeat timer set for a further period from a time (R115). -/
def heartbeatFrom (t : Nat) (s : State) : State :=
  { s with members.heartbeatTimer := some (t + Config.ticksPerMs * (prof s).heartbeatPeriod) }

/-! ### The commands -/

/-- HEARTBEAT_TIMER_EXPIRY (R115). -/
def execHeartbeatTimerExpiry (s : State) : Host.Outcome State Fault Refusal :=
  match s.members.heartbeatTimer with
  | none => .next s
  | some t => .next (syncBar (addHeartbeat (cancelHeartbeat (heartbeatFrom t (clockTo t s)))))

/-- SUPERVISION_DEADLINE (R120) of a node's slot; suspended while the link is OFFLINE (R128). -/
def execSupervisionDeadline (node : Node) (s : State) : Host.Outcome State Fault Refusal :=
  if s.link.state = .offline then .next s
  else
    match s.members.peers[node].deadline with
    | none => .next s
    | some t => .next (superviseSlot node t (clockTo t s))

end Sys2Proof.Machine
end

