-- ==== Sys2Proof/Machine/Line.lean ====
section
/-! DEFINITION. The line bus controller (chapter 5) and the acceptance unit (chapter 6): the recessive run, starting and ending
frames, receiving them, and the link states. -/

namespace Sys2Proof.Machine

/-! ### The recessive run and the required quiet counts (R77, R85) -/

/-- The base quiet count of an access class (05 §5.4). -/
def baseCount : AccessClass → Nat
  | .urgent => 12
  | .normal => 14
  | .routine => 16

/-- A required count after the run has reached `run`: lowered to its base at base plus one (R85). -/
def lowered (cls : AccessClass) (run required : Nat) : Nat := if baseCount cls + 1 ≤ run then baseCount cls else required

/-- The run is seen at a value, and raised counts it reaches are lowered (R85). -/
def observeRun (run : Nat) (s : State) : State :=
  { s with
    link.run := some run
    link.requiredUrgent := lowered .urgent run s.link.requiredUrgent
    link.requiredNormal := lowered .normal run s.link.requiredNormal
    link.requiredRoutine := lowered .routine run s.link.requiredRoutine }

/-- A value the kept run can have grown to (assumption log 10). -/
def runGrownTo (run : Nat) (s : State) : Bool :=
  match s.link.run with
  | none => false
  | some r => r ≤ run

/-- The required quiet count of a class. -/
def requiredOf (cls : AccessClass) (s : State) : Nat :=
  match cls with
  | .urgent => s.link.requiredUrgent
  | .normal => s.link.requiredNormal
  | .routine => s.link.requiredRoutine

/-- The required count of a sent frame's class is raised (R85). -/
def raiseCount (cls : AccessClass) (s : State) : State :=
  match cls with
  | .urgent => { s with link.requiredUrgent := baseCount .urgent + 1 }
  | .normal => { s with link.requiredNormal := baseCount .normal + 1 }
  | .routine => { s with link.requiredRoutine := baseCount .routine + 1 }

/-- How many low-order bits of a byte are ones. -/
def trailingOnes (b : Byte) : Nat := ((List.range 8).takeWhile fun k => b.getLsbD k).length

/-- The run at the end of a frame: its last stop bit and the ones before it (R77, R78). -/
def runAfter (bytes : List Byte) : Nat := 1 + trailingOnes (bytes.getLastD 0)

/-! ### Starting a frame (R84, R86, R96) -/

/-- The slot whose frame is on the line. -/
def sendingSlot (s : State) : Option Slot := s.link.slots.find? fun x => x.status ≠ .pending

/-- A PENDING slot of a class whose required count the run meets (R84). -/
def eligible (cls : AccessClass) (run : Nat) (s : State) (x : Slot) : Bool :=
  x.status = .pending && noticeClass x.notice = cls && requiredOf cls s ≤ run

/-- The slot to start: the lowest class, then the earliest added (R86). -/
def chosenSlot (run : Nat) (s : State) : Option Slot :=
  match s.link.slots.find? (eligible .urgent run s) with
  | some x => some x
  | none =>
    match s.link.slots.find? (eligible .normal run s) with
    | some x => some x
    | none => s.link.slots.find? (eligible .routine run s)

/-- The frame of a slot's attempt with a latch: the latch taken and carried in the slot, the fields of R96 filled. -/
def latchAttempt (x : Slot) (s : State) : State :=
  { modifySlot x.handle (fun y => { y with latch := some s.belt.count }) s with
    belt.frameLatch := s.belt.count
    link.txFrame := frameBytes (prof s).node (fillNotice (prof s).datum s.belt.count x.notice) }

/-- A slot becomes SENDING and its start bit is driven (R84). -/
def startFrame (x : Slot) (s : State) : State :=
  let s1 := latchAttempt x (modifySlot x.handle (fun y => { y with status := .sending }) s)
  { s1 with link.frame := .starting, link.run := some 0 }

/-- This station is driving its frame. -/
def driving (s : State) : Bool := s.link.frame = .starting || s.link.frame = .sending

/-- A frame is being received. -/
def receivingFrame (s : State) : Bool := s.link.frame = .receiving || s.link.frame = .receivingAbandoned

/-! ### The end of an attempt (R87 to R89, R94, R95) -/

/-- The slot's deadline has been reached (R94). -/
def deadlinePassed (x : Slot) (s : State) : Bool := x.deadlineMet || deadlineReached x.deadline s

/-- A slot whose attempt was lost: CANCELLED, STALE, or PENDING again (R87, R94, R95). -/
def returnSlot (x : Slot) (s : State) : State :=
  if x.status = .cancelPending then examineIf (endSlot x (.cancelled .requested) s)
  else if deadlinePassed x s then examineIf (endSlot x .stale s)
  else modifySlot x.handle (fun y => { y with status := .pending }) s

/-- A slot whose attempt had a bit error (R88). -/
def failSlot (x : Slot) (s : State) : State :=
  let failed := x.failedAttempts + 1
  if x.status = .cancelPending then examineIf (endSlot x (.cancelled .requested) s)
  else if 3 ≤ failed then examineIf (endSlot x .failed s)
  else if deadlinePassed x s then examineIf (endSlot x .stale s)
  else modifySlot x.handle (fun y => { y with status := .pending, failedAttempts := failed }) s

/-- A PENDING slot ends CANCELLED(SILENT) (R91). -/
def silenceSlot (s : State) (x : Slot) : State := examineIf (endSlot x (.cancelled .silent) s)

/-- The link enters SILENT: the flag set, both timers stopped, every PENDING slot ended, oldest first (R91, R115). -/
def linkSilent (cause : SilentCause) (s : State) : State :=
  let s1 :=
    { s with link.state := .silent cause, link.listeningTimer := none, members.heartbeatTimer := none }
  (s.link.slots.filter fun x => x.status = .pending).foldl silenceSlot (raiseFlag .linkSilent s1)

/-! ### Acceptance (R103 to R107) -/

/-- The class a notice carries for a CLASSES entry (R105). -/
def carriedClass : Wire → Option ClassCode
  | .claim _ cls => some cls
  | .piece _ info => info.pairs.head?.map (·.cls)
  | .heartbeat _ | .release _ _ | .fired _ _ | .confirm _ _ _ => none

/-- An enabled entry matches a notice (R105). -/
def entryMatches (origin : Node) (w : Wire) (e : AcceptEntry) : Bool :=
  e.enabled && e.kinds.getLsbD (wireKind w)
    && (match e.rule with
      | .range lo hi => lo ≤ origin && origin ≤ hi
      | .pair a b => origin = a || origin = b
      | .classes set =>
        match carriedClass w with
        | some c => inClassSet set c
        | none => false)

/-- The action the list decides for a notice; ACCEPT where no entry matches (R106). -/
def listAction (list : List AcceptEntry) (origin : Node) (w : Wire) : AcceptAction :=
  match list.find? (entryMatches origin w) with
  | none => .accept
  | some e => e.action

/-- A notice joins the queue of its kind (R107). -/
def queueNotice (e : QueueEntry) (s : State) : State :=
  match wireClass e.wire with
  | .urgent => joinUrgent e s
  | .normal => joinGeneral e s
  | .routine => s

/-- A received notice other than a HEARTBEAT is judged by the list (R106). -/
def judgeNotice (origin : Node) (w : Wire) (s : State) : State :=
  let e : QueueEntry := { wire := w, origin := origin, latch := s.belt.frameLatch, own := false }
  match listAction (prof s).acceptance origin w with
  | .accept => queueNotice e s
  | .drop => { s with accept.listDrop := bump s.accept.listDrop }
  | .acceptWatch => queueNotice e (raiseFlag .watch s)

/-- A received frame of known kind in its block's hands (R80, R103). -/
def takeNotice (h : Header) (body : List Byte) (s : State) : State :=
  match wireOf h.cls h.kind body with
  | none => { s with accept.malformedNotice := bump s.accept.malformedNotice }
  | some (.heartbeat beat) => takeHeartbeat h.origin beat s
  | some w => judgeNotice h.origin w s

/-! ### Receiving (R80 to R83) -/

/-- A complete frame passes the checks of R81. -/
def frameGood (bytes : List Byte) : Bool :=
  let h := headerOf bytes
  let body := bytes.take (bytes.length - 2)
  h.cls ≠ 3 && h.length ≤ 20 && bytes.length = 4 + h.length && bytes.drop (bytes.length - 2) = bytes2 (crc body).toNat

/-- The kind code names one of the six notices (R82). -/
def knownKind (kind : Nat) : Bool := 1 ≤ kind && kind ≤ 6

/-- A received frame bearing this station's own node (R83). -/
def countDuplicate (s : State) : State :=
  let s1 := { s with link.duplicates := bump s.link.duplicates }
  if acceptsAdds s then linkSilent .duplicate s1 else s1

/-- A discarded frame is counted, but for one this station had abandoned (R81). -/
def countReceiveError (s : State) : State :=
  if s.link.frame = .receivingAbandoned then s else { s with link.receiveErrors := bump s.link.receiveErrors }

/-- A complete frame is dealt with (R81 to R83). -/
def takeFrame (bytes : List Byte) (s : State) : State :=
  let h := headerOf bytes
  if !frameGood bytes then countReceiveError s
  else if !knownKind h.kind then { s with link.unknownKind := bump s.link.unknownKind }
  else
    takeNotice h ((bytes.drop 2).take h.length) (if h.origin = (prof s).node then countDuplicate s else s)

/-- The frame on the line is over and the line recessive for `run` bit times. -/
def frameOver (run : Nat) (s : State) : State :=
  { s with link.frame := .idle, link.txFrame := [], link.run := some run }

/-! ### The commands -/

/-- START_OF_FRAME (R11, R78): the belt count is latched; the edge of this station's own start bit latches for its slot. -/
def execStartOfFrame (run : Nat) (s : State) : Host.Outcome State Fault Refusal :=
  if s.link.state = .offline || run < 10 then .next s
  else
    match s.link.frame with
    | .idle =>
      if runGrownTo run s then
        .next { observeRun run s with belt.frameLatch := s.belt.count, link.run := some 0, link.frame := .receiving }
      else .next s
    | .starting =>
      match sendingSlot s with
      | none => .next s
      | some x => .next { latchAttempt x s with link.frame := .sending }
    | .receiving | .receivingAbandoned | .sending => .next s

/-- REQUIRED_COUNT_LOWERED (R85). -/
def execRequiredCountLowered (run : Nat) (s : State) : Host.Outcome State Fault Refusal :=
  if s.link.state ≠ .offline && s.link.frame = .idle && runGrownTo run s then .next (observeRun run s) else .next s

/-- SLOT_START (R84, R86). -/
def execSlotStart (run : Nat) (s : State) : Host.Outcome State Fault Refusal :=
  if s.link.state = .active && s.link.frame = .idle && runGrownTo run s then
    let s1 := observeRun run s
    match chosenSlot run s1 with
    | none => .next s1
    | some x => .next (startFrame x s1)
  else .next s

/-- ARBITRATION_LOST (R87): this station becomes a receiver of the frame. -/
def execArbitrationLost (s : State) : Host.Outcome State Fault Refusal :=
  match sendingSlot s with
  | none => .next s
  | some x =>
    if driving s then
      .next (syncBar (returnSlot x { s with link.frame := .receiving, link.txFrame := [] }))
    else .next s

/-- BIT_ERROR (R88): the slot's ending first, then SILENT(FAILURES) at the sixteenth consecutive failure. -/
def execBitError (s : State) : Host.Outcome State Fault Refusal :=
  match sendingSlot s with
  | none => .next s
  | some x =>
    if driving s then
      let failures := s.link.consecutiveFailures + 1
      let s1 :=
        failSlot x
          { s with link.frame := .receivingAbandoned, link.txFrame := [], link.consecutiveFailures := failures }
      .next (syncBar (if 16 ≤ failures then linkSilent .failures s1 else s1))
    else .next s

/-- SEND_SUCCESS (R89, R97): the outcome first, then the own frame in its queue (assumption log 21). -/
def execSendSuccess (s : State) : Host.Outcome State Fault Refusal :=
  match sendingSlot s with
  | none => .next s
  | some x =>
    if driving s then
      let latch := x.latch.getD s.belt.frameLatch
      let outcome := if x.status = .cancelPending then TxOutcome.sentDespiteCancel else .sent
      let s1 := frameOver (runAfter s.link.txFrame) { s with link.consecutiveFailures := 0 }
      let s2 := examineIf (endSlot x outcome (raiseCount (noticeClass x.notice) s1))
      let e : QueueEntry :=
        { wire := fillNotice (prof s).datum latch x.notice, origin := (prof s).node, latch := latch, own := true }
      .next (syncBar (queueNotice e s2))
    else .next s

/-- FRAME_RECEIVED (R80 to R83). -/
def execFrameReceived (bytes : List Byte) (s : State) : Host.Outcome State Fault Refusal :=
  if s.link.state ≠ .offline && receivingFrame s then
    .next (syncBar (frameOver (runAfter bytes) (takeFrame bytes s)))
  else .next s

/-- FRAME_DISCARDED (R81): every cause is counted alike, so the cause leaves no other trace. -/
def execFrameDiscarded (_cause : DiscardCause) (run : Nat) (s : State) : Host.Outcome State Fault Refusal :=
  if s.link.state ≠ .offline && receivingFrame s then .next (frameOver run (countReceiveError s)) else .next s

/-- LISTENING_TIMER_END (R90, R115): ACTIVE, the first heartbeat and the heartbeat timer. -/
def execListeningTimerEnd (s : State) : Host.Outcome State Fault Refusal :=
  match s.link.state, s.link.listeningTimer with
  | .listening, some t =>
    .next (addHeartbeat (heartbeatFrom t { clockTo t s with link.state := .active, link.listeningTimer := none }))
  | _, _ => .next s

/-- SLOT_DEADLINE_STALE (R94) of the slot at a place in age order; while it sends, the reached deadline is marked. -/
def execSlotDeadlineStale (place : Fin 8) (s : State) : Host.Outcome State Fault Refusal :=
  match s.link.slots[place.val]? with
  | none => .next s
  | some x =>
    if deadlineReached x.deadline s then
      if x.status = .pending then .next (syncBar (examineIf (endSlot x .stale s)))
      else .next (modifySlot x.handle (fun y => { y with deadlineMet := true }) s)
    else .next s

end Sys2Proof.Machine
end

