-- ==== Sys2Proof/Machine/Motion.lean ====
section
/-! DEFINITION. The belt position unit (chapter 1): encoder edges, speed windows, the motion state, and scan strobes. -/

namespace Sys2Proof.Machine

/-! ### The motion state (R5 to R7) -/

/-- STOPPED or REVERSING, the states that a stop flag announces (R7). -/
def isHalt : Motion → Bool
  | .stopped | .reversing => true
  | .running | .slow => false

/-- The change sets LINE_STOPPED: to STOPPED or REVERSING from RUNNING or SLOW, the station RUNNING (R7). -/
def stopsLine (new : Motion) (s : State) : Bool :=
  isHalt new && !isHalt s.belt.motion && s.port.station = .running

/-- LINE_STOPPED for a change of motion state (R7). -/
def flagStop (new : Motion) (s : State) : State := if stopsLine new s then raiseFlag .lineStopped s else s

/-- A change of motion state is handed to the firing scheduler: every state but RUNNING closes the OPEN entries (R7, R164). The
claim unit takes no action on it (R146). -/
def motionTo (new : Motion) (s : State) : State :=
  if s.belt.motion = new then s
  else
    let s1 := { flagStop new s with belt.motion := new }
    if new = .running then s1 else interruptAll s1

/-! ### Scan strobes (R8 to R10) -/

/-- A pair enters the ring, the oldest leaving when 256 are held (R10). -/
def ringEnter (pair : BitVec 16 × Count) (ring : List (BitVec 16 × Count)) : List (BitVec 16 × Count) :=
  (ring ++ [pair]).drop (ring.length + 1 - Config.ringSize)

/-- The conditions of R8: RUNNING, the next strobe count reached, not REVERSING, the output free. -/
def strobeDue (s : State) : Bool :=
  s.port.station = .running && reached s s.belt.nextStrobe && s.belt.motion ≠ .reversing && s.belt.strobeWord.isNone

/-- A strobe is issued at the present belt count (R8), and the mode switch examines both fills (R25). -/
def issueStrobe (s : State) : State :=
  modeAtStrobe
    { s with
      belt.scanNumber := s.belt.scanNumber + 1
      belt.ring := ringEnter (s.belt.scanNumber + 1, s.belt.count) s.belt.ring
      belt.nextStrobe := s.belt.count + counts (prof s).scanPitch
      belt.strobeWord := some (s.belt.scanNumber + 1) }

/-- A due strobe is issued (R8, R9). -/
def strobeIfDue (s : State) : State := if strobeDue s then issueStrobe s else s

/-! ### Speed windows (R3 to R6) -/

/-- The forward figure of a window (R4). -/
def windowFigure (forward reverse : Nat) : Nat := min 4095 (forward - reverse)

/-- The window list with a new figure (R4). -/
def windowShift (w : Vector Nat 4) (figure : Nat) : Vector Nat 4 := #v[w[1], w[2], w[3], figure]

/-- S of a window list (R4). -/
def windowSpeed (w : Vector Nat 4) : Nat := (w[0] + w[1] + w[2] + w[3]) / 4

/-- The zero run after a window with these tallies (R5). -/
def zeroRunAfter (run forward reverse : Nat) : Nat := if forward = reverse then min 2 (run + 1) else 0

/-- SLOW or RUNNING by S (R5). -/
def bySpeed (speed sMin : Nat) : Motion := if speed < sMin then .slow else .running

/-- The conditions under which a window end leaves REVERSING (R6). -/
def leavesReversing (b : Belt) : Bool := b.beganReversing && b.reverseFree && b.reverse < b.forward

/-- The zero run a window end leaves (R5, R6). -/
def zeroRunAtEnd (b : Belt) : Nat :=
  if b.motion = .reversing then (if leavesReversing b then 0 else b.zeroRun)
  else zeroRunAfter b.zeroRun b.forward b.reverse

/-- The motion state a window end declares, by the S it has just set (R5, R6). From STOPPED as from any other state R5's words
decide, so a first window at rest declares SLOW; the table of 1.3 says otherwise (assumption log 37). -/
def motionAtEnd (b : Belt) (speed sMin : Nat) : Motion :=
  if b.motion = .reversing then (if leavesReversing b then bySpeed speed sMin else .reversing)
  else if zeroRunAfter b.zeroRun b.forward b.reverse = 2 then .stopped
  else bySpeed speed sMin

/-- The belt position unit with a window ended at time `t` and the next one begun under the declared state (R3 to R6). -/
def windowEnded (t : Nat) (declared : Motion) (b : Belt) : Belt :=
  let w := windowShift b.windowList (windowFigure b.forward b.reverse)
  { b with
    windowList := w
    speed := windowSpeed w
    zeroRun := zeroRunAtEnd b
    forward := 0
    reverse := 0
    reverseFree := true
    beganReversing := declared = .reversing
    windowTimer := some (t + Config.windowTicks) }

/-- The speed a window end sets (R4). -/
def speedAtEnd (b : Belt) : Nat := windowSpeed (windowShift b.windowList (windowFigure b.forward b.reverse))

/-! ### The commands -/

/-- One forward count (R1). -/
def stepForward (b : Belt) : Belt :=
  { b with count := b.count + 1, forward := if b.windowTimer.isSome then b.forward + 1 else b.forward }

/-- One reverse count; while the window timer runs it spoils the window (R1, R6). -/
def stepReverse (b : Belt) : Belt :=
  if b.windowTimer.isSome then { b with count := b.count - 1, reverse := b.reverse + 1, reverseFree := false }
  else { b with count := b.count - 1 }

/-- ENCODER_EDGE (R1, R6). -/
def execEncoderEdge (edge : EncoderEdge) (s : State) : Host.Outcome State Fault Refusal :=
  match edge with
  | .forward => .next { s with belt := stepForward s.belt }
  | .reverse =>
    let s1 := { s with belt := stepReverse s.belt }
    .next (if s.belt.windowTimer.isSome then syncBar (motionTo .reversing s1) else s1)
  | .bothChanged => .next s

/-- SPEED_WINDOW_END (R4 to R6). -/
def execSpeedWindowEnd (s : State) : Host.Outcome State Fault Refusal :=
  match s.belt.windowTimer with
  | none => .next s
  | some t =>
    let declared := motionAtEnd s.belt (speedAtEnd s.belt) (prof s).sMin
    let s1 := motionTo declared (clockTo t { s with belt := windowEnded t declared s.belt })
    .next (syncBar (if s.belt.motion = .reversing && declared ≠ .reversing then strobeIfDue s1 else s1))

/-- SCAN_STROBE (R8). -/
def execScanStrobe (s : State) : Host.Outcome State Fault Refusal := .next (strobeIfDue s)

/-- STROBE_WORD_END (R8): the output is free, and a strobe that fell due meanwhile is issued. -/
def execStrobeWordEnd (s : State) : Host.Outcome State Fault Refusal :=
  match s.belt.strobeWord with
  | none => .next s
  | some _ => .next (strobeIfDue { s with belt.strobeWord := none })

end Sys2Proof.Machine
end

