-- ==== Sys2Proof/Machine/Evidence.lean ====
section
/-! DEFINITION. Evidence and decision (chapter 4): the arithmetic of R58 to R61, the decision values of R62, completeness (R67),
and the evaluation of a track with its hand-off (R63 to R66, R71). -/

namespace Sys2Proof.Machine

/-! ### The arithmetic -/

/-- How many lanes two closed lane ranges share (R38, R60). -/
def sharedLanes (lo1 hi1 lo2 hi2 : Nat) : Nat := min hi1 hi2 + 1 - max lo1 lo2

/-- The overlap factor of a local detection on an existing track (R60). -/
def overlapFactor (mode : Mode) (e : Detection) (t : Track) : Nat :=
  match mode with
  | .quick => 16
  | .full => 16 * sharedLanes e.laneLo e.laneHi t.laneLo t.laneHi / (e.laneHi - e.laneLo + 1)

/-- One pair added to the accumulators, each capped at 65,535 (R61). -/
def addPair (weight factor : Nat) (acc : Vector Nat 16) (q : ClassScore) : Vector Nat 16 :=
  acc.set q.cls (min 65535 (acc[q.cls] + q.score.toNat * weight * factor / 16))

/-- The pairs of an accepted contribution added in the order they are carried (R61). -/
def addPairs (weight factor : Nat) (pairs : List ClassScore) (acc : Vector Nat 16) : Vector Nat 16 :=
  pairs.foldl (addPair weight factor) acc

/-! ### Decision values (R62) -/

/-- c1: the class whose accumulator is largest, the lowest code on a tie (R62). -/
def leadingClass (acc : Vector Nat 16) : ClassCode :=
  (List.finRange 16).foldl (fun (b c : Fin 16) => if acc[b] < acc[c] then c else b) 0

/-- a2: the largest accumulator among the classes other than the leading one (R62). -/
def runnerUp (acc : Vector Nat 16) : Nat :=
  (List.finRange 16).foldl (fun (m : Nat) (c : Fin 16) => if c = leadingClass acc then m else max m acc[c]) 0

/-- The margin: a1 less a2 (R62). -/
def leadMargin (acc : Vector Nat 16) : Nat := acc[leadingClass acc] - runnerUp acc

/-- The decision an evaluation writes (R63). -/
def decisionOf (p : Profile) (mode : Mode) (acc : Vector Nat 16) : Decision :=
  let c := leadingClass acc
  if p.aMin ≤ acc[c] && p.mMin[c] ≤ leadMargin acc then .decided c (leadMargin acc) mode else .undecided mode

/-! ### Completeness (R67) -/

/-- A station that should by now have reported the piece has done so, or is not yet required (R67). -/
def stationSatisfied (s : State) (t : Track) (node : Node) (datum : BitVec 24) : Bool :=
  !((datum.toNat + (prof s).reportLag : Int) ≤ linePosition s t.d) || t.contributors.any fun c => c.1 = node

/-- The track is complete (R67). -/
def complete (s : State) (t : Track) : Bool :=
  (s.members.expected.all fun m => stationSatisfied s t m.1 m.2)
    && (!(prof s).sense || stationSatisfied s t (prof s).node (prof s).datum)

/-! ### Evaluation -/

/-- An evaluation: the decision values computed, the decision written and the result handed to the claim unit (R64, R65, R75). -/
def evaluate (key : Nat) (cause : EvalCause) (s : State) : State :=
  match trackAt key s with
  | none => s
  | some t =>
    let d := decisionOf (prof s) s.engine.mode t.accumulators
    let s1 := modifyTrack key (fun u => { u with decision := d }) s
    let s2 :=
      if cause = .decisionPoint && (decidedClass d).isNone then { s1 with engine.undecided := bump s1.engine.undecided }
      else s1
    handOff key t.decision cause s2

/-- The own-state leaves the decision open to evaluation (R69, R71). -/
def mayEvaluate (t : Track) : Bool := t.own = .none || t.own = .pending

/-- The decision point of a track is met: the mark set, and the track evaluated unless its own-state forbids it (R66, R71). -/
def meetPoint (key : Nat) (s : State) : State :=
  match trackAt key s with
  | none => s
  | some t =>
    let s1 := modifyTrack key (fun u => { u with pointMet := true }) s
    if mayEvaluate t then evaluate key .decisionPoint s1 else s1

/-- A decision point that waits and is reached (R66). -/
def pointDue (s : State) (t : Track) : Bool := (prof s).eject && !t.pointMet && reached s (decisionPoint s t)

/-- The hand-off of an accepted contribution to decision evaluation (R64, R69, R70). -/
def handToEvaluation (mode : Mode) (key : Nat) (s : State) : State :=
  match trackAt key s with
  | none => s
  | some t =>
    if (prof s).eject && mode = .full && mayEvaluate t && (t.pointMet || complete s t) then
      evaluate key .contribution s
    else s

/-- The hand-off of a created track, which meets a decision point already reached (R29, R66). -/
def handNewTrack (mode : Mode) (key : Nat) (s : State) : State :=
  match trackAt key s with
  | none => s
  | some t => if pointDue s t then meetPoint key s else handToEvaluation mode key s

/-! ### Contributions (R41, R46, R58, R71) -/

/-- A contribution the contributor list accepts: its pair joins the list and its pairs are added (R58, R61). -/
def acceptContribution (weight factor : Nat) (who : Node × SourceKind) (pairs : List ClassScore) (t : Track) : Track :=
  { t with
    contributors := t.contributors ++ [who]
    accumulators := addPairs weight factor pairs t.accumulators }

/-- While OWNED, an accepted contribution that leaves another class in the lead sets LATE_EVIDENCE (R71, R75). -/
def checkLateEvidence (key : Nat) (s : State) : State :=
  match trackAt key s with
  | none => s
  | some t =>
    if t.own = .owned && !t.lateEvidence && (decidedClass t.decision).isSome
        && decidedClass t.decision ≠ some (leadingClass t.accumulators) then
      modifyTrack key (fun u => { u with lateEvidence := true })
        { s with engine.lateEvidence := bump s.engine.lateEvidence }
    else s

/-- A contribution offered to a track's contributor list; says whether it was accepted (R41, R46). -/
def offerContribution (key : Nat) (who : Node × SourceKind) (factor : Nat) (pairs : List ClassScore) (s : State) :
    State × Bool :=
  match trackAt key s with
  | none => (s, false)
  | some t =>
    if t.contributors.contains who then (s, false)
    else if Config.contributorSize ≤ t.contributors.length then
      (modifyTrack key (fun u => { u with crowded := true }) s, false)
    else
      let s1 := modifyTrack key (acceptContribution (prof s).weights[who.2] factor who pairs) s
      (checkLateEvidence key s1, true)

end Sys2Proof.Machine
end

