-- ==== Sys2Proof/Machine/TrackTable.lean ====
section
/-! DEFINITION. Association, creation, refinement, announcement and eviction (chapter 3), shared by detections and PIECE
notices. -/

namespace Sys2Proof.Machine

/-- A piece's extent as a detection or notice gives it. -/
structure Extent where
  d : Count
  length : Nat
  laneLo : Nat
  laneHi : Nat
deriving DecidableEq, Repr

/-! ### Association (R37 to R39) -/

/-- A track overlaps an extent along and across the belt, with the profile's gates (R37). -/
def isCandidate (p : Profile) (x : Extent) (t : Track) : Bool :=
  !(isAfter x.d (t.d + counts t.length + counts p.gateLong))
    && !(isAfter (t.d - counts p.gateLong) (x.d + counts x.length))
    && 0 < sharedLanes x.laneLo x.laneHi (t.laneLo - p.gateLat) (min 255 (t.laneHi + p.gateLat))

/-- The later of two counts. -/
def laterOf (a b : Count) : Count := if isAfter a b then a else b

/-- The earlier of two counts. -/
def earlierOf (a b : Count) : Count := if isAfter a b then b else a

/-- The overlap score of a candidate, measured without the gates (R38). -/
def overlapScore (x : Extent) (t : Track) : Nat :=
  (signedDiff (earlierOf (t.d + counts t.length) (x.d + counts x.length)) (laterOf t.d x.d)).toNat
    * sharedLanes x.laneLo x.laneHi t.laneLo t.laneHi

/-- Of two candidates the better by score, then by the smaller D, then by the earlier place (R38). -/
def betterOf (x : Extent) (best t : Track) : Track :=
  if overlapScore x best < overlapScore x t then t
  else if overlapScore x best = overlapScore x t && isAfter best.d t.d then t
  else best

/-- The candidate with the highest score (R38). -/
def bestCandidate (x : Extent) : List Track → Option Track
  | [] => none
  | t :: ts => some (ts.foldl (betterOf x) t)

/-- The candidates for an extent, in table order (R37). -/
def candidatesFor (x : Extent) (s : State) : List Track := s.engine.tracks.filter (isCandidate (prof s) x)

/-- The matched track of a local detection, by the mode in force (R38, R39). -/
def matchDetection (mode : Mode) (x : Extent) (s : State) : Option Track :=
  match mode with
  | .full => bestCandidate x (candidatesFor x s)
  | .quick => (candidatesFor x s).head?

/-! ### Room in the table (R54, R55) -/

/-- A track that may be evicted (R54): no firing link, no held retirement, not owned by this station, not passed over. -/
def mayEvict (passOver : Option Nat) (s : State) (t : Track) : Bool :=
  !linked t.key s && !t.heldRetirement && t.owner ≠ some (prof s).node && passOver ≠ some t.key

/-- A track leaves by eviction (R54). -/
def evict (t : Track) (s : State) : State :=
  let s1 := countDeparture t (removeTrack t.key s)
  orphanRecords t { s1 with engine.evicted := bump s1.engine.evicted }

/-- Room for a new track, by eviction where the table is full; absent where no track qualifies (R54). -/
def roomForTrack (passOver : Option Nat) (s : State) : Option State :=
  if s.engine.tracks.length < Config.trackSize then some s
  else (s.engine.tracks.find? (mayEvict passOver s)).map fun t => evict t s

/-- A detection or notice dropped at a full table (R55). -/
def dropAtFullTable (s : State) : State :=
  raiseFlag .trackFull { s with engine.trackFull := bump s.engine.trackFull, engine.tableFull := true }

/-! ### Creation (R29, R30) -/

/-- The first of the 257 tries at an own ID that names no live track, from a sequence number on (R30). -/
def freeSequence (node : Node) (s : State) : Nat → Fin 4096 → Fin 4096
  | 0, q => q
  | fuel + 1, q => if (trackOf ⟨node, q⟩ s).isNone then q else freeSequence node s fuel (q + 1)

/-- The record of a new track (R29). -/
def newTrack (key : Nat) (id : PieceId) (x : Extent) (source : Option (BitVec 24)) (cluster split : Bool) : Track where
  key := key
  primary := id
  aliasId := none
  d := x.d
  length := x.length
  laneLo := x.laneLo
  laneHi := x.laneHi
  source := source
  accumulators := Vector.replicate 16 0
  contributors := []
  cluster := cluster
  crowded := false
  split := split
  unannounced := false
  lateEvidence := false
  decision := .stillOpen
  pointMet := false
  heldRetirement := false
  own := .none
  owner := none
  releasedBy := []
  firedBy := none

/-- A new track with its creating contribution enters the table in its place (R29, R32). -/
def createTrack (t : Track) (who : Node × SourceKind) (pairs : List ClassScore) (s : State) : State :=
  let t1 := acceptContribution (prof s).weights[who.2] 16 who pairs t
  { s with engine.tracks := placeTrack t1 s.engine.tracks, engine.nextKey := s.engine.nextKey + 1 }

/-! ### Refinement (R47 to R49) -/

/-- The sender's datum, known while its slot is present for decisions (R47, R126). -/
def senderDatum (origin : Node) (s : State) : Option (BitVec 24) :=
  let slot := s.members.peers[origin]
  if presentForDecisions slot.state then slot.content.map (·.datum) else none

/-- The measuring datum outranks the position source (R48). -/
def outranks (datum source : Option (BitVec 24)) : Bool :=
  match datum, source with
  | none, _ => false
  | some _, none => true
  | some d, some r => r < d

/-- A track's position replaced by a measurement (R48). -/
def movedTrack (x : Extent) (datum : Option (BitVec 24)) (t : Track) : Track :=
  { t with d := x.d, length := x.length, laneLo := x.laneLo, laneHi := x.laneHi, source := datum }

/-- Position refinement: the track takes the measurement, is placed again, and meets a decision point newly reached
(R48, R49, R66). -/
def refine (key : Nat) (x : Extent) (datum : Option (BitVec 24)) (s : State) : State :=
  match trackAt key s with
  | none => s
  | some t =>
    if outranks datum t.source then
      let t1 := movedTrack x datum t
      let s1 :=
        { s with engine.tracks := placeTrack t1 (s.engine.tracks.filter fun u => u.key ≠ key) }
      if pointDue s1 t1 then meetPoint key s1 else s1
    else s

/-- The entry is finished: a track whose retirement count is reached retires at once, or is held (R36, R40, R49, R52). -/
def finishEntry (key : Nat) (s : State) : State :=
  match trackAt key s with
  | none => s
  | some t => if reached s (retirementCount s t) then retireOrHold t s else s

/-! ### Announcement (R50, R51) -/

/-- A refused PIECE request sets UNANNOUNCED on the track its ID names, if there is one (R51). -/
def markUnannounced (id : PieceId) (s : State) : State :=
  match trackOf id s with
  | none => s
  | some t => modifyTrack t.key (fun u => { u with unannounced := true }) s

/-- The PIECE announcement of a local detection under the primary ID of its track (R50); it is requested even when the detection
has made the track leave the table. -/
def announce (id : PieceId) (mode : Mode) (e : Detection) (s : State) : State :=
  let p := prof s
  let info : PieceInfo :=
    { id := id
      length := BitVec.ofNat 12 e.length
      laneLo := byteOf e.laneLo
      laneHi := byteOf e.laneHi
      kind := p.localKind
      mode := mode
      cluster := e.cluster
      pairs := e.pairs }
  addNotice (.piece e.d info) (some (s.belt.count + counts p.announceLifetime)) (markUnannounced id) s

/-- CLUSTER is taken from a detection or notice that carries it (R31). -/
def takeCluster (key : Nat) (cluster : Bool) (s : State) : State :=
  if cluster then modifyTrack key (fun u => { u with cluster := true }) s else s

end Sys2Proof.Machine
end

