-- ==== Sys2Proof/Machine/Tracking.lean ====
section
/-! DEFINITION. The commands of the tracking engine: DETECTION_ENTRY_TAKEN, PIECE_ENTRY_TAKEN, DECISION_POINT_REACHED and
RETIREMENT_COUNT_REACHED (chapters 3 and 4). -/

namespace Sys2Proof.Machine

/-! ### Taking an entry (R34) -/

/-- The entry is a detection. -/
def isDetection : IntakeEntry → Bool
  | .detection _ => true
  | .arrival _ => false

/-- The entry is a PIECE. -/
def isPiece (e : QueueEntry) : Bool :=
  match e.wire with
  | .piece _ _ => true
  | .heartbeat _ | .claim _ _ | .release _ _ | .fired _ _ | .confirm _ _ _ => false

/-- The entry is a CONFIRM. -/
def isConfirm (e : QueueEntry) : Bool :=
  match e.wire with
  | .confirm _ _ _ => true
  | .heartbeat _ | .piece _ _ | .claim _ _ | .release _ _ | .fired _ _ => false

/-- The oldest detection entry, when the engine takes from the intake queue next (R34). -/
def nextDetection (s : State) : Option (Detection × List IntakeEntry) :=
  if s.port.station = .running && (s.engine.turn = .intake || !s.accept.general.any isPiece) then
    match takeFirst isDetection s.intake.queue with
    | some (.detection e, rest) => some (e, rest)
    | _ => none
  else none

/-- The oldest PIECE entry, when the engine takes from the general queue next (R34); in HALTING no detection competes. -/
def nextPiece (s : State) : Option (QueueEntry × List QueueEntry) :=
  if working s && (s.engine.turn = .general || !s.intake.queue.any isDetection || s.port.station = .halting) then
    takeFirst isPiece s.accept.general
  else none

/-! ### Detections (R37 to R41) -/

/-- The extent of a detection. -/
def detectionExtent (e : Detection) : Extent := ⟨e.d, e.length, e.laneLo, e.laneHi⟩

/-- A detection with no candidate creates a track, or is dropped at a full table (R40). -/
def createFromDetection (mode : Mode) (e : Detection) (s : State) : State :=
  match roomForTrack none s with
  | none => dropAtFullTable s
  | some s1 =>
    let p := prof s1
    let q := freeSequence p.node s1 257 s1.engine.ownSequence
    let key := s1.engine.nextKey
    let t := newTrack key ⟨p.node, q⟩ (detectionExtent e) (some p.datum) e.cluster false
    let s2 := createTrack t (p.node, p.localKind) e.pairs { s1 with engine.ownSequence := q + 1 }
    finishEntry key (handNewTrack mode key (announce t.primary mode e s2))

/-- A detection applied to its matched track, in the order of R41. -/
def applyDetection (mode : Mode) (e : Detection) (t : Track) (s : State) : State :=
  let p := prof s
  let s1 := takeCluster t.key e.cluster s
  let offered := offerContribution t.key (p.node, p.localKind) (overlapFactor mode e t) e.pairs s1
  let s2 := announce t.primary mode e (refine t.key (detectionExtent e) (some p.datum) offered.1)
  let s3 := if offered.2 then handToEvaluation mode t.key s2 else s2
  finishEntry t.key s3

/-- A detection entry in the engine's hands (R37 to R41). -/
def takeDetection (e : Detection) (s : State) : State :=
  match matchDetection s.engine.mode (detectionExtent e) s with
  | none => createFromDetection s.engine.mode e s
  | some t => applyDetection s.engine.mode e t s

/-! ### PIECE notices (R42 to R46) -/

/-- The piece's D in this station's counter (R42). -/
def pieceD (s : State) (latch : Count) (position : BitVec 24) : Count :=
  latch + counts (prof s).datum.toNat - counts position.toNat

/-- The extent a PIECE gives. -/
def pieceExtent (s : State) (latch : Count) (position : BitVec 24) (info : PieceInfo) : Extent :=
  ⟨pieceD s latch position, info.length.toNat, info.laneLo.toNat, info.laneHi.toNat⟩

/-- A notice creates a track under its own piece ID, or is dropped at a full table; `splitFrom` is the candidate it is split
from (R43, R45). -/
def createFromPiece (mode : Mode) (x : Extent) (origin : Node) (info : PieceInfo) (splitFrom : Option Nat) (s : State) :
    State :=
  match roomForTrack splitFrom s with
  | none => dropAtFullTable s
  | some s1 =>
    let key := s1.engine.nextKey
    let t := newTrack key info.id x (senderDatum origin s1) info.cluster splitFrom.isSome
    let s2 :=
      match splitFrom with
      | none => s1
      | some k => modifyTrack k (fun u => { u with split := true }) s1
    finishEntry key (handNewTrack mode key (createTrack t (origin, info.kind) info.pairs s2))

/-- A notice applied to its track, in the order of R46. -/
def applyPiece (mode : Mode) (x : Extent) (origin : Node) (info : PieceInfo) (key : Nat) (s : State) : State :=
  let s1 := takeCluster key info.cluster s
  let offered := offerContribution key (origin, info.kind) 16 info.pairs s1
  let s2 := refine key x (senderDatum origin offered.1) offered.1
  let s3 := if offered.2 then handToEvaluation mode key s2 else s2
  finishEntry key s3

/-- Order of piece IDs: by node, then by sequence (00 §6.3). -/
def idBefore (a b : PieceId) : Bool := a.node < b.node || (a.node = b.node && a.seq < b.seq)

/-- The merge of a notice's ID with a candidate's primary: the lower becomes primary (R44). -/
def mergeId (id : PieceId) (t : Track) : Track :=
  if idBefore id t.primary then { t with primary := id, aliasId := some t.primary } else { t with aliasId := some id }

/-- A PIECE that is not PASSED: matched by ID, associated by position, or made a track (R43 to R46). -/
def associatePiece (x : Extent) (origin : Node) (info : PieceInfo) (s : State) : State :=
  let mode := s.engine.mode
  match trackOf info.id s with
  | some t => applyPiece mode x origin info t.key s
  | none =>
    match bestCandidate x (candidatesFor x s) with
    | none => createFromPiece mode x origin info none s
    | some t =>
      if t.aliasId.isNone then applyPiece mode x origin info t.key (modifyTrack t.key (mergeId info.id) s)
      else createFromPiece mode x origin info (some t.key) s

/-- A PIECE entry of a peer in the engine's hands: PASSED, or looked up (R42). -/
def takePiece (latch : Count) (origin : Node) (position : BitVec 24) (info : PieceInfo) (s : State) : State :=
  let x := pieceExtent s latch position info
  if reached s (x.d + counts x.length + counts (prof s).horizon) then { s with engine.passed := bump s.engine.passed }
  else associatePiece x origin info s

/-! ### The commands -/

/-- DETECTION_ENTRY_TAKEN (R34, R37). -/
def execDetectionEntryTaken (s : State) : Host.Outcome State Fault Refusal :=
  match nextDetection s with
  | none => .next s
  | some (e, rest) => .next (syncBar (takeDetection e { s with intake.queue := rest, engine.turn := .general }))

/-- PIECE_ENTRY_TAKEN (R34, R35, R42): in HALTING, at a station that keeps no tracks, and for an OWN entry the entry is removed
and discarded uncounted. -/
def execPieceEntryTaken (s : State) : Host.Outcome State Fault Refusal :=
  match nextPiece s with
  | none => .next s
  | some (e, rest) =>
    let s1 := { s with accept.general := rest, engine.turn := .intake }
    if e.own || s.port.station = .halting || !keepsTracks s then .next s1
    else
      match e.wire with
      | .piece position info => .next (syncBar (takePiece e.latch e.origin position info s1))
      | .heartbeat _ | .claim _ _ | .release _ _ | .fired _ _ | .confirm _ _ _ => .next s1

/-- DECISION_POINT_REACHED (R66) of the track an ID names. -/
def execDecisionPointReached (id : PieceId) (s : State) : Host.Outcome State Fault Refusal :=
  match trackOf id s with
  | none => .next s
  | some t => if working s && pointDue s t then .next (syncBar (meetPoint t.key s)) else .next s

/-- RETIREMENT_COUNT_REACHED (R52) of the track an ID names. -/
def execRetirementCountReached (id : PieceId) (s : State) : Host.Outcome State Fault Refusal :=
  match trackOf id s with
  | none => .next s
  | some t => if working s && reached s (retirementCount s t) then .next (retireOrHold t s) else .next s

end Sys2Proof.Machine
end

