-- ==== Sys2Proof/Machine/Valves.lean ====
section
/-! DEFINITION. The valve map and valve health (10 §10.1 to §10.4), and the end of a transfer on the valve bar link (R163). -/

namespace Sys2Proof.Machine

/-! ### The map and its laws (R170) -/

/-- A valve's descriptor; absent for a number that is not on the bar. -/
def descAt (m : Vector Valve 64) (v : Nat) : Option Descriptor := m[v]?.map (·.descriptor)

/-- The valve is COVERED_LEFT or COVERED_RIGHT. -/
def isCovered : Descriptor → Bool
  | .coveredLeft | .coveredRight => true
  | .active | .retired => false

/-- The cover valve of a covered valve (R170). -/
def coverOf (m : Vector Valve 64) (v : Nat) : Option Nat :=
  match descAt m v with
  | some .coveredLeft => some (v - 1)
  | some .coveredRight => some (v + 1)
  | _ => none

/-- A covered valve's cover is an ACTIVE adjacent valve (R170). -/
def coverOk (m : Vector Valve 64) (v : Nat) : Bool :=
  match descAt m v with
  | some .coveredLeft => 1 ≤ v && descAt m (v - 1) = some .active
  | some .coveredRight => descAt m (v + 1) = some .active
  | _ => true

/-- The valve covers its left neighbour and its right neighbour at once (R170). -/
def coversBoth (m : Vector Valve 64) (u : Nat) : Bool :=
  1 ≤ u && descAt m (u - 1) = some .coveredRight && descAt m (u + 1) = some .coveredLeft

/-- How many valves the cover table lists (R170). -/
def coverTableSize (m : Vector Valve 64) : Nat :=
  ((List.finRange 64).filter fun (v : Fin 64) => isCovered m[v].descriptor).length

/-- The laws of R170. -/
def mapLaw (m : Vector Valve 64) : Bool :=
  ((List.range 64).all fun v => coverOk m v) && ((List.range 64).all fun v => !coversBoth m v)
    && coverTableSize m ≤ Config.coverSize

/-- The valves that are ACTIVE in one map and not in the next (R171). -/
def leftActive (before after : Vector Valve 64) : ValveSet :=
  (List.finRange 64).foldl
    (fun (vs : ValveSet) (v : Fin 64) =>
      if before[v].descriptor = .active && after[v].descriptor ≠ .active then vs ||| valveBit v else vs) 0

/-- Valves that left ACTIVE are removed from the drive set of an OPEN entry (R165). -/
def cutDrive (vs : ValveSet) (e : Entry) : Entry := if e.state = .opened then { e with drive := e.drive &&& ~~~ vs } else e

/-- A new map takes effect, and the scheduler is told of the valves that left ACTIVE (R171, R165). -/
def installMap (m : Vector Valve 64) (s : State) : State :=
  { s with
    valves.valve := m
    sched.entries := s.sched.entries.map (cutDrive (leftActive s.valves.valve m)) }

/-! ### Edits (R172, R173) -/

/-- Why an edit is aborted (R172). -/
inductive EditFault where
  | badValve (valve : Nat)
  | repeated (valve : Nat)
  | badCover (valve : Nat)
  | doubleCover (valve : Nat)
  | tableFull
deriving DecidableEq, Repr

/-- The descriptor an edit lists for a valve. -/
def listedAs (pairs : List (Nat × Nat)) (v : Nat) : Option Descriptor :=
  match pairs.find? (·.1 = v) with
  | none => none
  | some q => descriptorOf q.2

/-- A valve's descriptor in the prospective map (R172). -/
def prospective (pairs : List (Nat × Nat)) (m : Vector Valve 64) (v : Fin 64) : Descriptor :=
  match listedAs pairs v with
  | some d => d
  | none =>
    match coverOf m v with
    | none => m[v].descriptor
    | some u => if listedAs pairs u = some .retired then .retired else m[v].descriptor

/-- A valve after an edit: its prospective descriptor, and streak and mark cleared when listed as ACTIVE (R173). -/
def editedValve (pairs : List (Nat × Nat)) (m : Vector Valve 64) (v : Fin 64) : Valve :=
  if listedAs pairs v = some .active then { m[v] with descriptor := .active, streak := 0, suspect := false }
  else { m[v] with descriptor := prospective pairs m v }

/-- The map an edit produces (R172, R173). -/
def editedMap (pairs : List (Nat × Nat)) (m : Vector Valve 64) : Vector Valve 64 := Vector.ofFn (editedValve pairs m)

/-- A pair that does not name a valve and a descriptor (R172 check 1). -/
def badPair (q : Nat × Nat) : Bool := 63 < q.1 || 3 < q.2

/-- A valve named in more than one pair (R172 check 2). -/
def namedTwice (pairs : List (Nat × Nat)) (v : Nat) : Bool := 2 ≤ (pairs.filter fun q => q.1 = v).length

/-- The checks of R172 in their order, on the map the edit would produce. -/
def editFault (pairs : List (Nat × Nat)) (m : Vector Valve 64) : Option EditFault :=
  let new := editedMap pairs m
  match pairs.find? badPair with
  | some q => some (.badValve q.1)
  | none =>
    match (List.range 64).find? (namedTwice pairs) with
    | some v => some (.repeated v)
    | none =>
      match (List.range 64).find? fun v => !coverOk new v with
      | some v => some (.badCover v)
      | none =>
        match (List.range 64).find? (coversBoth new) with
        | some v => some (.doubleCover v)
        | none => if Config.coverSize < coverTableSize new then some .tableFull else none

/-- An edit judged and, when it passes, applied (R172, R173). -/
def applyEdit (pairs : List (Nat × Nat)) (s : State) : State × Option EditFault :=
  match editFault pairs s.valves.valve with
  | some f => ({ s with valves.abortedEdits := bump s.valves.abortedEdits }, some f)
  | none =>
    (installMap (editedMap pairs s.valves.valve) { s with valves.edits := bump s.valves.edits }, none)

/-! ### Driver faults (R174) -/

/-- A faulted valve: ACTIVE when flagged (R174). -/
def isFaulted (mask : ValveSet) (m : Vector Valve 64) (v : Nat) : Bool := mask.getLsbD v && descAt m v = some .active

/-- A released valve: its cover is faulted (R174). -/
def isReleased (mask : ValveSet) (m : Vector Valve 64) (v : Nat) : Bool :=
  match coverOf m v with
  | none => false
  | some u => isFaulted mask m u

/-- A flagged valve that is COVERED (R174). -/
def isFlaggedCovered (mask : ValveSet) (m : Vector Valve 64) (v : Fin 64) : Bool :=
  mask.getLsbD v && isCovered m[v].descriptor

/-- The map after the retirements of a mask (R174). -/
def retiredMap (mask : ValveSet) (m : Vector Valve 64) : Vector Valve 64 :=
  Vector.ofFn fun (v : Fin 64) =>
    if isFaulted mask m v || isReleased mask m v then { m[v] with descriptor := .retired } else m[v]

/-- The faulted and released valves of a mask, in ascending order (R174, R175). -/
def outOfService (mask : ValveSet) (m : Vector Valve 64) : List (Fin 64) :=
  (List.finRange 64).filter fun (v : Fin 64) => isFaulted mask m v || isReleased mask m v

/-- How many the valve fault count rises by: faulted valves and flagged COVERED valves (R174). -/
def faultsOf (mask : ValveSet) (m : Vector Valve 64) : Nat :=
  ((List.finRange 64).filter fun (v : Fin 64) => isFaulted mask m v || isFlaggedCovered mask m v).length

/-! ### Auto-cover (R175) -/

/-- The right neighbour qualifies as a cover (R175). -/
def rightQualifies (m : Vector Valve 64) (v : Nat) : Bool :=
  descAt m (v + 1) = some .active && descAt m (v + 2) ≠ some .coveredLeft && coverTableSize m < Config.coverSize

/-- The left neighbour qualifies as a cover (R175). -/
def leftQualifies (m : Vector Valve 64) (v : Nat) : Bool :=
  1 ≤ v && descAt m (v - 1) = some .active && !(2 ≤ v && descAt m (v - 2) = some .coveredRight)
    && coverTableSize m < Config.coverSize

/-- One valve handed to auto-cover, the right neighbour first; the number of covers made is counted (R175). -/
def autoCoverOne (a : Vector Valve 64 × Nat) (v : Fin 64) : Vector Valve 64 × Nat :=
  if rightQualifies a.1 v then (a.1.set v { a.1[v] with descriptor := .coveredRight }, a.2 + 1)
  else if leftQualifies a.1 v then (a.1.set v { a.1[v] with descriptor := .coveredLeft }, a.2 + 1)
  else a

/-- The map and the covers made for the valves taken out of service (R175). -/
def autoCovered (auto : Bool) (vs : List (Fin 64)) (m : Vector Valve 64) : Vector Valve 64 × Nat :=
  if auto then vs.foldl autoCoverOne (m, 0) else (m, 0)

/-- A count bumped `n` times. -/
def bumpBy : Nat → Tally → Tally
  | 0, c => c
  | n + 1, c => bumpBy n (bump c)

/-- A fault mask handed to the valve map (R174, R175). -/
def takeMask (mask : ValveSet) (s : State) : State :=
  let m := s.valves.valve
  let covered := autoCovered (prof s).autoCover (outOfService mask m) (retiredMap mask m)
  let faults := faultsOf mask m
  let s1 := installMap covered.1 s
  let s2 :=
    { s1 with
      valves.valveFaults := bumpBy faults s1.valves.valveFaults
      valves.autoCovers := bumpBy covered.2 s1.valves.autoCovers }
  if faults = 0 then s2 else raiseFlag .valveFault s2

/-- The transfer in progress is over, and another begins at once if one is wanted (R163). -/
def nextTransfer (s : State) : State :=
  if s.bar.again then { s with bar.transfer := some (transferBytes s.bar.drive s.bar.pilot), bar.again := false }
  else { s with bar.transfer := none }

/-! ### Confirmations (R178) -/

/-- One valve of a confirmed record (R178). -/
def confirmedValve (result : ConfirmResult) (threshold : Nat) (v : Valve) : Valve :=
  match result with
  | .arrived => { v with streak := 0, suspect := false }
  | .absent =>
    { v with streak := min 15 (v.streak + 1), suspect := v.suspect || threshold ≤ min 15 (v.streak + 1) }

/-- The valves after a confirmation of a record's valve set (R178). -/
def confirmedMap (vs : ValveSet) (result : ConfirmResult) (threshold : Nat) (m : Vector Valve 64) : Vector Valve 64 :=
  Vector.ofFn fun (v : Fin 64) => if vs.getLsbD v then confirmedValve result threshold m[v] else m[v]

/-- A SUSPECT mark has been set between two maps (R178). -/
def newSuspect (before after : Vector Valve 64) : Bool :=
  (List.finRange 64).any fun (v : Fin 64) => !before[v].suspect && after[v].suspect

/-- A CONFIRM taken by valve health (R178). -/
def takeConfirm (id : PieceId) (result : ConfirmResult) (s : State) : State :=
  match takeFirst (fun r => r.1 = id) s.valves.recent with
  | none => { s with valves.unlistedConfirms := bump s.valves.unlistedConfirms }
  | some (r, rest) =>
    let m := confirmedMap r.2 result (prof s).suspectThreshold s.valves.valve
    let s1 := { s with valves.recent := rest, valves.valve := m }
    if newSuspect s.valves.valve m then raiseFlag .valveSuspect s1 else s1

/-! ### The commands -/

/-- TRANSFER_COMPLETE (R163, R174): the mask is acted on, then any further transfer starts. -/
def execTransferComplete (returned : List Byte) (s : State) : Host.Outcome State Fault Refusal :=
  match s.bar.transfer with
  | none => .next s
  | some _ => .next (nextTransfer (syncBar (takeMask (faultMaskOf returned) s)))

/-- CONFIRM_ENTRY_TAKEN (R108, R178). -/
def execConfirmEntryTaken (s : State) : Host.Outcome State Fault Refusal :=
  match takeFirst isConfirm s.accept.general with
  | none => .next s
  | some (e, rest) =>
    let s1 := { s with accept.general := rest }
    match e.wire with
    | .confirm id _ result => .next (takeConfirm id result s1)
    | .heartbeat _ | .piece _ _ | .claim _ _ | .release _ _ | .fired _ _ => .next s1

end Sys2Proof.Machine
end

