-- ==== Sys2Proof/Machine/Reports.lean ====
section
/-! DEFINITION. What the station port answers: response frames (R189, R190) and the data of the read commands (R194, R196, R201
to R203), byte by byte. -/

namespace Sys2Proof.Machine

/-! ### Response frames (11 §11.1, R190) -/

/-- A response frame: code, data length, data (11 §11.1). DESIGN CHOICE: the length goes high byte first (assumption log 41). -/
def frameOf (code : Nat) (data : List Byte) : List Byte := byteOf code :: bytes2 data.length ++ data

/-- DONE with its data. -/
def doneFrame (data : List Byte) : List Byte := frameOf 0 data

/-- REFUSED_STATE carries no data (R190). -/
def refusedStateFrame : List Byte := frameOf 1 []

/-- REFUSED_ARGUMENT carries the index of the offending field (R190). -/
def refusedArgumentFrame (index : Nat) : List Byte := frameOf 2 [byteOf index]

/-- Reason and valve number of an aborted edit (R190). -/
def abortBytes : EditFault → List Byte
  | .badValve v => [0, byteOf v]
  | .badCover v => [1, byteOf v]
  | .tableFull => [2, 0]
  | .doubleCover v => [3, byteOf v]
  | .repeated v => [4, byteOf v]

/-- MAP_ABORTED carries the reason and the valve number (R190). -/
def mapAbortedFrame (f : EditFault) : List Byte := frameOf 3 (abortBytes f)

/-! ### Codes -/

/-- A flag as a byte. -/
def flagByte (f : Bool) : Byte := if f then 1 else 0

/-- Two bytes of a count. -/
def tallyBytes (c : Tally) : List Byte := bytes2 c.toNat

/-- Station state code (R201). -/
def stationCode : Station → Byte
  | .unconfigured => 0
  | .ready => 1
  | .running => 2
  | .halting => 3
  | .halted => 4

/-- Link state code and cause code (R201). -/
def linkBytes : LinkState → List Byte
  | .offline => [0, 0]
  | .listening => [1, 0]
  | .active => [2, 0]
  | .silent .duplicate => [3, 1]
  | .silent .failures => [3, 2]

/-- Motion state code (R201). -/
def motionCode : Motion → Byte
  | .running => 0
  | .slow => 1
  | .stopped => 2
  | .reversing => 3

/-- Peer slot state code (R202). -/
def peerCode : PeerState → Byte
  | .absent => 0
  | .joining1 => 1
  | .joining2 => 2
  | .present => 3
  | .doubtful1 => 4
  | .doubtful2 => 5
  | .lost => 6

/-- NOT_FIRED reason code (R194). -/
def notFiredCode : NotFired → Nat
  | .slow => 0
  | .late => 1
  | .noValve => 2
  | .supply => 3
  | .plenum => 4
  | .stopped => 5
  | .halted => 6

/-- Result and qualifier of an outcome record (R194). -/
def resultBytes : Result → List Byte
  | .fired => [0, 0]
  | .interrupted => [1, 0]
  | .notFired why => [2, byteOf (notFiredCode why)]
  | .displaced => [3, 0]
  | .claimLost owner => [4, byteOf owner]
  | .claimLate failed => [5, flagByte failed]
  | .reclassed => [6, 0]

/-- The 13 bytes of an outcome record (R194), its piece ID as in R99. DESIGN CHOICE (assumption log 41): the open count and the
margin go high byte first. -/
def recordBytes (r : OutcomeRecord) : List Byte :=
  idBytes r.id ++ [byteOf (r.cls * 16 + modeCode r.mode * 8 + modeCode r.decisionMode * 4)] ++ resultBytes r.result
    ++ [byteOf (flagValue r.trimmed 128 + flagValue r.clamped 64 + flagValue r.cut 32 + flagValue r.weak 16
        + flagValue r.lateEvidence 8)]
    ++ [byteOf r.valveCount] ++ bytes4 r.openCount.toNat ++ bytes2 r.margin

/-! ### READ STATUS (R201) -/

/-- How many elements satisfy a test, as a byte. -/
def countByte {α : Type} (p : α → Bool) (list : List α) : Byte := byteOf (list.filter p).length

/-- Orders 1 to 12 of the status block: station, link, motion, mode, supply and flags. -/
def statusHead (s : State) : List Byte :=
  [stationCode s.port.station] ++ linkBytes s.link.state ++ [motionCode s.belt.motion] ++ bytes2 s.belt.speed
    ++ bytes4 s.belt.count.toNat ++ [byteOf (modeCode s.engine.mode), byteOf s.engine.returnCounter]
    ++ [byteOf (supplyCode s.air.supply)] ++ bytes2 (eventFlags s).toNat ++ bytes2 s.port.enableMask.toNat
    ++ [flagByte (attention s)]

/-- Orders 13 to 15: detection intake, track table, decision. -/
def statusTracks (s : State) : List Byte :=
  [byteOf s.intake.queue.length, countByte isDetection s.intake.queue, countByte (fun e => !isDetection e) s.intake.queue]
    ++ tallyBytes s.intake.malformed ++ tallyBytes s.intake.stale ++ tallyBytes s.intake.dropped
    ++ [byteOf s.engine.tracks.length, flagByte s.engine.tableFull] ++ bytes2 s.engine.ownSequence
    ++ tallyBytes s.engine.passed ++ tallyBytes s.engine.trackFull ++ tallyBytes s.engine.evicted
    ++ tallyBytes s.engine.unannounced ++ tallyBytes s.engine.crowded ++ tallyBytes s.engine.split
    ++ tallyBytes s.engine.undecided ++ tallyBytes s.engine.lateEvidence

/-- Order 16: line bus controller. -/
def statusLink (s : State) : List Byte :=
  [byteOf s.link.requiredUrgent, byteOf s.link.requiredNormal, byteOf s.link.requiredRoutine]
    ++ [byteOf (Config.slotSize - s.link.slots.length), countByte (fun x => x.status = .pending) s.link.slots,
      countByte (fun x => x.status = .sending) s.link.slots, countByte (fun x => x.status = .cancelPending) s.link.slots]
    ++ bytes2 s.link.consecutiveFailures ++ tallyBytes s.link.receiveErrors ++ tallyBytes s.link.unknownKind
    ++ tallyBytes s.link.duplicates

/-- Order 17: acceptance unit. -/
def statusAccept (s : State) : List Byte :=
  [byteOf s.accept.general.length, countByte isPiece s.accept.general, countByte isConfirm s.accept.general,
      byteOf s.accept.urgent.length, flagByte s.accept.overrun]
    ++ tallyBytes s.accept.malformedNotice ++ tallyBytes s.accept.listDrop ++ tallyBytes s.accept.generalDrop
    ++ tallyBytes s.accept.urgentDrop ++ tallyBytes s.accept.ownDrop ++ tallyBytes s.accept.quickNotice
    ++ tallyBytes s.link.unknownKind ++ tallyBytes s.engine.passed

/-- How many slots stand in a state. -/
def peersIn (state : PeerState) (s : State) : Byte := countByte (fun p => p.state = state) s.members.peers.toList

/-- Order 18: membership unit. -/
def statusMembers (s : State) : List Byte :=
  [peersIn .absent s, peersIn .joining1 s, peersIn .joining2 s, peersIn .present s, peersIn .doubtful1 s,
      peersIn .doubtful2 s, peersIn .lost s]
    ++ tallyBytes s.members.skipped ++ tallyBytes s.members.contentChange

/-- Order 19: claim unit. -/
def statusClaim (s : State) : List Byte :=
  [byteOf s.claim.ownClaims.length, byteOf s.claim.dropNotices.length] ++ tallyBytes s.claim.won ++ tallyBytes s.claim.lost
    ++ tallyBytes s.claim.unknownId ++ tallyBytes s.claim.ignored ++ tallyBytes s.claim.withheld
    ++ tallyBytes s.claim.unsent ++ tallyBytes s.claim.orphan

/-- Order 20: firing scheduler. -/
def statusSched (s : State) : List Byte :=
  [countByte (fun e => e.state = .reserved) s.sched.entries, countByte (fun e => e.state = .armed) s.sched.entries,
      countByte (fun e => e.state = .opened) s.sched.entries, byteOf (valveCount (driveOf s)), byteOf s.sched.lastPeak]
    ++ tallyBytes s.sched.admitted ++ tallyBytes s.sched.trimmed ++ tallyBytes s.sched.displaced ++ tallyBytes s.sched.cut
    ++ tallyBytes s.sched.interrupted

/-- Orders 21 and 22: air supply, chute check, station port. -/
def statusTail (s : State) : List Byte :=
  tallyBytes s.air.faults ++ [byteOf s.chute.expectations.length, byteOf s.chute.held.length]
    ++ tallyBytes s.chute.arrived ++ tallyBytes s.chute.absent ++ tallyBytes s.chute.expectationDrops
    ++ tallyBytes s.chute.strays ++ tallyBytes s.chute.otherChute ++ tallyBytes s.chute.confirmUnsent
    ++ tallyBytes s.chute.firedTaken ++ [byteOf s.port.outcomes.length] ++ tallyBytes s.port.lostOutcomes
    ++ tallyBytes s.port.portErrors

/-- The status block of 148 bytes (R201). -/
def statusBlock (s : State) : List Byte :=
  statusHead s ++ statusTracks s ++ statusLink s ++ statusAccept s ++ statusMembers s ++ statusClaim s ++ statusSched s
    ++ statusTail s

/-! ### READ PEERS (R202) -/

/-- The content mark, the content and the arrival time of a slot record (R202). DESIGN CHOICE (assumption log 41): the arrival time goes
high byte first. -/
def contentBytes (p : Peer) : List Byte :=
  match p.content with
  | none => 0 :: List.replicate 17 0
  | some h => 1 :: heartbeatBytes h ++ bytes4 (p.arrival.getD 0)

/-- The 20 bytes of a slot record (R202). -/
def peerBytes (p : Peer) : List Byte := [peerCode p.state, byteOf p.missed] ++ contentBytes p

/-- The 320 bytes of READ PEERS (R202). -/
def peersBlock (s : State) : List Byte := s.members.peers.toList.flatMap peerBytes

/-! ### READ VALVE MAP (R203) -/

/-- The 6 bytes of a valve record (R203). DESIGN CHOICE: the fired count goes high byte first (assumption log 41). -/
def valveBytes (m : Vector Valve 64) (v : Fin 64) : List Byte :=
  [byteOf (descriptorCode m[v].descriptor * 64 + flagValue m[v].suspect 32 + m[v].streak), byteOf ((coverOf m v).getD 0)]
    ++ bytes4 m[v].fired.toNat

/-- The 397 bytes of READ VALVE MAP (R203). DESIGN CHOICE: each of the six counts goes high byte first (assumption log 41). -/
def valveBlock (s : State) : List Byte :=
  (List.finRange 64).flatMap (valveBytes s.valves.valve) ++ [byteOf s.valves.recent.length] ++ tallyBytes s.valves.edits
    ++ tallyBytes s.valves.abortedEdits ++ tallyBytes s.valves.valveFaults ++ tallyBytes s.valves.autoCovers
    ++ tallyBytes s.valves.recentDrops ++ tallyBytes s.valves.unlistedConfirms

/-! ### READ OUTCOMES (R196) -/

/-- The fill, the number returned and up to four records, oldest first (R196). -/
def outcomesBlock (s : State) : List Byte :=
  [byteOf s.port.outcomes.length, byteOf (min 4 s.port.outcomes.length)] ++ (s.port.outcomes.take 4).flatMap recordBytes

end Sys2Proof.Machine
end

