-- ==== Sys2Proof/Machine/Resets.lean ====
section
/-! DEFINITION. The moments at which every block changes at once: START, HALT, the end of HALTING, station reset and power-on
reset (11 §11.2, §11.6, and the reset rule of each chapter). -/

namespace Sys2Proof.Machine

/-! ### START (R191) -/

/-- A first window begins as the station leaves READY (R3). -/
def firstWindow (t : Nat) (b : Belt) : Belt :=
  { b with
    windowList := Vector.replicate 4 0
    forward := 0
    reverse := 0
    speed := 0
    zeroRun := 0
    motion := .stopped
    reverseFree := true
    beganReversing := false
    windowTimer := some (t + Config.windowTicks) }

/-- The belt position unit at START (R3, R9): from HALTED the windows go on. -/
def startBelt (fromReady : Bool) (t pitch : Nat) (b : Belt) : Belt :=
  { (if fromReady then firstWindow t b else b) with nextStrobe := b.count + counts pitch }

/-- The link becomes LISTENING with its timer and no failures (R90). -/
def listen (s : State) : State :=
  { s with
    link.state := .listening
    link.listeningTimer := some (s.clock + 2 * (prof s).heartbeatPeriod * Config.ticksPerMs)
    link.consecutiveFailures := 0 }

/-- The queues, tables and lists that START and the entry to HALTED both empty (R23, R57, R114, R131, R188). -/
def emptyLists (s : State) : State :=
  { s with
    intake.queue := []
    engine.tracks := []
    engine.tableFull := false
    accept.general := []
    accept.urgent := []
    accept.overrun := false
    claim.ownClaims := []
    claim.dropNotices := []
    sched.entries := []
    chute.expectations := []
    chute.held := [] }

/-- START, accepted in READY and HALTED, carries out what each chapter gives for it (R191); the engine's first choice is the intake
queue (R34). -/
def startStation (s : State) : State :=
  let p := prof s
  let s1 := modeFromProfile p (emptyTable (emptyLists s))
  let s2 :=
    { s1 with
      belt := startBelt (s.port.station = .ready) s.clock p.scanPitch s.belt
      engine.turn := .intake
      link.slots := []
      link.run := some 0
      link.frame := .idle
      link.txFrame := []
      sched.lastPeak := 0
      valves.recent := []
      port.station := .running }
  listen s2

/-! ### HALT (R147, R168) -/

/-- One entry at the entry to HALTING: OPEN closes INTERRUPTED; RESERVED and ARMED leave NOT_FIRED(HALTED), the claim given up
or the piece released (R147, R168). -/
def haltEntry (e : Entry) (s : State) : State :=
  match e.state with
  | .opened => closeEntry e .interrupted false s
  | .reserved | .armed => schedulerEnds e (.notFired .halted) .halted s

/-- One track at the entry to HALTING, by the entry it holds (R147). -/
def haltTrack (s : State) (t : Track) : State :=
  match entryAt t.key s with
  | none => s
  | some e => haltEntry e s

/-- Entry to HALTING: detections discarded, then each track dealt with in table order (R23, R147; assumption log 19). -/
def haltStation (s : State) : State :=
  let s1 :=
    { s with
      port.station := .halting
      intake.queue := s.intake.queue.filter fun e => !isDetection e }
  s1.engine.tracks.foldl haltTrack s1

/-! ### The end of HALTING (R147, R92) -/

/-- The notice was added by the claim unit (05 §5.7). -/
def isClaimWork : Notice → Bool
  | .claim _ _ | .release _ _ | .fired _ _ => true
  | .heartbeat _ | .piece _ _ | .confirm _ _ _ => false

/-- The end condition of R147. -/
def haltingDone (s : State) : Bool :=
  s.port.station = .halting && !(s.link.slots.any fun x => isClaimWork x.notice) && s.claim.ownClaims.isEmpty
    && s.claim.dropNotices.isEmpty

/-- A slot ends CANCELLED(OFFLINE) (R92). -/
def offlineSlot (s : State) (x : Slot) : State := (endSlot x (.cancelled .offline) s).1

/-- The link goes OFFLINE, every slot ended, oldest first (R92). -/
def goOffline (s : State) : State :=
  let s1 := s.link.slots.foldl offlineSlot s
  { s1 with
    link.state := .offline
    link.listeningTimer := none
    link.run := none
    link.frame := .idle
    link.txFrame := []
    members.heartbeatTimer := none }

/-- Entry to HALTED (R23, R57, R92, R114, R128, R183, R188). -/
def enterHalted (s : State) : State :=
  { emptyLists (goOffline s) with
    air.supply := .standby
    air.chargeTimer := none
    air.standbyTimer := none
    air.standbyDue := none
    port.station := .halted }

/-- HALTING_END (R147). -/
def execHaltingEnd (s : State) : Host.Outcome State Fault Refusal :=
  if haltingDone s then .next (syncBar (enterHalted s)) else .next s

/-! ### Station reset (R200) -/

/-- An all-closed transfer is sent, after the one in progress if there is one (R168, R163). -/
def sendClosed (b : Bar) : Bar :=
  if b.transfer.isSome then { drive := 0, pilot := false, transfer := b.transfer, again := true }
  else { drive := 0, pilot := false, transfer := some (transferBytes 0 false), again := false }

/-- A record in reception at a reset is abandoned (R15, R28). -/
def abandonReception : Reception → Reception
  | .idle => .idle
  | .receiving _ => .abandoned
  | .abandoned => .abandoned

/-- The evaluation mode after a station reset (R26, R28). -/
def modeAfterReset (profile : Option Profile) : Mode :=
  match profile with
  | none => .full
  | some p => if p.quickOnly then .quick else .full

/-- The adopted-class set after a station reset (R129). -/
def adoptedAfterReset (profile : Option Profile) : ClassSet :=
  match profile with
  | none => 0
  | some p => p.fallback

/-- The station state after a station reset (R191). -/
def stationAfterReset (profile : Option Profile) : Station := if profile.isSome then .ready else .unconfigured

/-- Station reset, block by block (R13, R28, R57, R98, R114, R129, R148, R169, R179, R183, R188, R200). -/
def stationReset (s : State) : State where
  clock := s.clock
  belt := { s.belt with windowTimer := none }
  intake := { Intake.reset with reception := abandonReception s.intake.reception }
  engine := { Engine.reset with mode := modeAfterReset s.port.profile, ownSequence := s.engine.ownSequence }
  link := .reset
  accept := .reset
  members := { Members.reset with adopted := adoptedAfterReset s.port.profile }
  claim := .reset
  sched := .reset
  bar := sendClosed s.bar
  valves := { ValveMap.reset with valve := s.valves.valve }
  air := { Air.reset with pressureOk := s.air.pressureOk }
  chute := .reset
  port :=
    { Port.reset with
      station := stationAfterReset s.port.profile
      profile := s.port.profile
      enableMask := s.port.enableMask
      resetHeld := s.port.resetHeld }
  pending := s.pending

/-- The RESET pin is asserted: the station is reset, and held so (R189, R200). -/
def assertReset (s : State) : State := { stationReset s with port.resetHeld := true }

/-- The RESET pin is released: a record that began while it was held is abandoned as well (R15). -/
def releaseReset (s : State) : State :=
  { s with intake.reception := abandonReception s.intake.reception, port.resetHeld := false }

/-- STATION_RESET (R200): by the pin from its assertion to its release, by the RESET command at the release of chip select
(R191). -/
def execStationReset (cause : ResetCause) (s : State) : Host.Outcome State Fault Refusal :=
  match cause with
  | .pinAsserted => if s.port.resetHeld then .next s else .next (assertReset s)
  | .pinReleased => if s.port.resetHeld then .next (releaseReset s) else .next s
  | .command => if s.port.resetPending then .next (stationReset s) else .next s

/-- Power-on reset keeps only what is outside the part: the waiting commands, the levels of the pressure-ok line and the RESET
pin, and that record enable stands for a record now abandoned (R15, R199). -/
def powerOn (s : State) : State :=
  { State.reset with
    intake.reception := abandonReception s.intake.reception
    air.pressureOk := s.air.pressureOk
    port.resetHeld := s.port.resetHeld
    pending := s.pending }

/-- POWER_ON_RESET (R199). -/
def execPowerOnReset (s : State) : Host.Outcome State Fault Refusal := .next (powerOn s)

end Sys2Proof.Machine
end

