-- ==== Sys2Proof/Machine/StationPort.lean ====
section
/-! DEFINITION. The station port (chapter 11): the judgement of a command (R190) and the commands of its table. -/

namespace Sys2Proof.Machine

/-! ### A transaction (R189, R190) -/

/-- A new transaction begins: a RESET taken in the last one has had its chip select released (R191, assumption log 26). -/
def transaction (s : State) : State := if s.port.resetPending then stationReset s else s

/-- A complete command frame is taken in a transaction of its own; while the RESET pin is asserted the port takes none (R189). -/
def taken (run : State → State) (s : State) : State := if s.port.resetHeld then s else run (transaction s)

/-- Byte `i` that the part shifts out after a command: the response, and zero bytes past its end (R189). -/
def responseByte (s : State) (i : Nat) : Byte := s.port.response.getD i 0

/-- The response frame is ready to be shifted out (R189). -/
def respond (frame : List Byte) (s : State) : State := { s with port.response := frame }

/-- A command is carried out and answered DONE with data built from the state just after (R189, R190). -/
def carryOut (effect : State → State) (data : State → List Byte) (s : State) : State :=
  let s1 := effect s
  respond (doneFrame (data s1)) s1

/-- Steps 2 and 3 of R190, then `run` for the rest. -/
def judge (accepted lengthOk : Bool) (run : State → State) (s : State) : State :=
  if !accepted then respond refusedStateFrame s
  else if !lengthOk then respond (refusedArgumentFrame 0) s
  else run s

/-- No data. -/
def noData (_ : State) : List Byte := []

/-! ### Where commands are accepted (R191) -/

/-- LOAD PROFILE: UNCONFIGURED, READY, HALTED. -/
def acceptsLoad (s : State) : Bool :=
  match s.port.station with
  | .unconfigured | .ready | .halted => true
  | .running | .halting => false

/-- START: READY, HALTED. -/
def acceptsStart (s : State) : Bool :=
  match s.port.station with
  | .ready | .halted => true
  | .unconfigured | .running | .halting => false

/-- The link is SILENT, with either cause. -/
def isSilent (s : State) : Bool :=
  match s.link.state with
  | .silent _ => true
  | .offline | .listening | .active => false

/-- EDIT VALVE MAP: every state but UNCONFIGURED. -/
def acceptsEdit (s : State) : Bool := s.port.station ≠ .unconfigured

/-! ### What the commands do -/

/-- The new own node's slot is emptied (R193). -/
def clearOwnSlot (n : Node) (s : State) : State := setPeer n Peer.empty s

/-- A profile that passed every check is in force (R193). -/
def installProfile (p : Profile) (s : State) : State :=
  let s1 := { s with port.profile := some p, port.station := .ready, belt.windowTimer := none }
  recomputeSets (clearOwnSlot p.node (modeFromProfile p s1))

/-- The profile checks, then the load (R192, R193). -/
def loadChecked (arg : List Byte) (s : State) : State :=
  match profileOffence arg with
  | some index => respond (refusedArgumentFrame index) s
  | none => carryOut (installProfile (profileOf arg)) noData s

/-- The list-length check of EDIT VALVE MAP (R191). -/
def editLengthOk (arg : List Byte) : Bool := 1 ≤ u8 arg 0 && u8 arg 0 ≤ 64 && arg.length = 1 + 2 * u8 arg 0

/-- The list-length check, then the edit (R172, R191). -/
def editChecked (arg : List Byte) (s : State) : State :=
  if !editLengthOk arg then respond (refusedArgumentFrame 1) s
  else
    match applyEdit (editPairs arg) s with
    | (s1, some f) => respond (mapAbortedFrame f) s1
    | (s1, none) => respond (doneFrame []) (syncBar s1)

/-- The oldest `n` records removed and OUTCOME_LOST cleared (R196). -/
def removeOldest (n : Nat) (s : State) : State :=
  clearFlag .outcomeLost { s with port.outcomes := s.port.outcomes.drop n }

/-- Flags named in a mask are cleared (R197). -/
def clearMasked (mask : BitVec 16) (s : State) : State := { s with port.flags := s.port.flags &&& ~~~ mask }

/-- The enable mask is replaced, its bits 11 to 15 left out (R197, R198). -/
def setMask (mask : BitVec 16) (s : State) : State := { s with port.enableMask := mask &&& flagField }

/-- The mask in the two bytes of an argument (R197, R198). DESIGN CHOICE: high byte first (assumption log 41). -/
def maskOf (arg : List Byte) : BitVec 16 := BitVec.ofNat 16 (u16 arg 0)

/-- RESET is taken; the reset follows at the release of chip select (R191). -/
def armReset (s : State) : State := { s with port.resetPending := true }

/-! ### The commands -/

/-- LOAD_PROFILE (R192, R193). -/
def execLoadProfile (arg : List Byte) (s : State) : Host.Outcome State Fault Refusal :=
  .next (taken (fun a => judge (acceptsLoad a) (arg.length = 278) (loadChecked arg) a) s)

/-- START (R191). -/
def execStart (arg : List Byte) (s : State) : Host.Outcome State Fault Refusal :=
  .next (taken (fun a => judge (acceptsStart a) arg.isEmpty (carryOut (fun b => syncBar (startStation b)) noData) a) s)

/-- HALT (R147). -/
def execHalt (arg : List Byte) (s : State) : Host.Outcome State Fault Refusal :=
  .next
    (taken (fun a => judge (a.port.station = .running) arg.isEmpty (carryOut (fun b => syncBar (haltStation b)) noData) a) s)

/-- RESUME_LINK (R91): accepted in RUNNING with the link SILENT. -/
def execResumeLink (arg : List Byte) (s : State) : Host.Outcome State Fault Refusal :=
  .next (taken (fun a => judge (a.port.station = .running && isSilent a) arg.isEmpty (carryOut listen noData) a) s)

/-- EDIT_VALVE_MAP (R172, R173, R191): the length is part of the command's own checks. -/
def execEditValveMap (arg : List Byte) (s : State) : Host.Outcome State Fault Refusal :=
  .next (taken (fun a => judge (acceptsEdit a) true (editChecked arg) a) s)

/-- READ_VALVE_MAP (R179, R203). -/
def execReadValveMap (arg : List Byte) (s : State) : Host.Outcome State Fault Refusal :=
  .next (taken (judge true arg.isEmpty (carryOut id valveBlock)) s)

/-- READ_STATUS (R201). -/
def execReadStatus (arg : List Byte) (s : State) : Host.Outcome State Fault Refusal :=
  .next (taken (judge true arg.isEmpty (carryOut id statusBlock)) s)

/-- READ_PEERS (R202). -/
def execReadPeers (arg : List Byte) (s : State) : Host.Outcome State Fault Refusal :=
  .next (taken (judge true arg.isEmpty (carryOut id peersBlock)) s)

/-- READ_OUTCOMES (R196). -/
def execReadOutcomes (arg : List Byte) (s : State) : Host.Outcome State Fault Refusal :=
  .next (taken (judge true arg.isEmpty (carryOut id outcomesBlock)) s)

/-- The records REMOVE OUTCOMES removes: the smaller of its argument and the fill (R196). -/
def removable (arg : List Byte) (s : State) : Nat := min (u8 arg 0) s.port.outcomes.length

/-- The removal and its answer: how many went, and the fill after (R196). -/
def removeAnswered (arg : List Byte) (s : State) : State :=
  let n := removable arg s
  carryOut (removeOldest n) (fun b => [byteOf n, byteOf b.port.outcomes.length]) s

/-- REMOVE_OUTCOMES (R196). -/
def execRemoveOutcomes (arg : List Byte) (s : State) : Host.Outcome State Fault Refusal :=
  .next (taken (judge true (arg.length = 1) (removeAnswered arg)) s)

/-- The flags as they stand, in two bytes (R197). DESIGN CHOICE: high byte first (assumption log 41). -/
def flagsData (s : State) : List Byte := bytes2 (eventFlags s).toNat

/-- CLEAR_EVENTS (R197): answered with the flags as they stand after. -/
def execClearEvents (arg : List Byte) (s : State) : Host.Outcome State Fault Refusal :=
  .next (taken (judge true (arg.length = 2) (carryOut (clearMasked (maskOf arg)) flagsData)) s)

/-- SET_EVENT_MASK (R198). -/
def execSetEventMask (arg : List Byte) (s : State) : Host.Outcome State Fault Refusal :=
  .next (taken (judge true (arg.length = 2) (carryOut (setMask (maskOf arg)) noData)) s)

/-- RESET (R191). -/
def execReset (arg : List Byte) (s : State) : Host.Outcome State Fault Refusal :=
  .next (taken (judge true arg.isEmpty (carryOut armReset noData)) s)

/-- BAD_COMMAND_CODE (R190 step 1); a code from 1 to 13 is no such command (assumption log 3). -/
def execBadCommandCode (code : Byte) (_arg : List Byte) (s : State) : Host.Outcome State Fault Refusal :=
  if code = 0 || 13 < code.toNat then .next (taken (respond (refusedArgumentFrame 0)) s) else .next s

/-- A transaction ended before its command frame is complete is counted, and has no response (R189). -/
def abandonTransaction (s : State) : State :=
  { s with port.portErrors := bump s.port.portErrors, port.response := [] }

/-- PORT_TRANSACTION_ABANDONED (R189). -/
def execPortTransactionAbandoned (s : State) : Host.Outcome State Fault Refusal := .next (taken abandonTransaction s)

end Sys2Proof.Machine
end

