-- ==== Sys2Proof/Machine/Dispatch.lean ====
section
/-! DEFINITION. One arm per command: each calls its meaning. -/

namespace Sys2Proof.Machine

/-- The effect of a command on everything but the queue of waiting commands. -/
def exec (i : Instr) (s : State) : Host.Outcome State Fault Refusal :=
  match i with
  | .encoderEdge edge => Sys2Proof.Machine.execEncoderEdge edge s
  | .speedWindowEnd => Sys2Proof.Machine.execSpeedWindowEnd s
  | .scanStrobe => Sys2Proof.Machine.execScanStrobe s
  | .strobeWordEnd => Sys2Proof.Machine.execStrobeWordEnd s
  | .recordComplete bytes ending => Sys2Proof.Machine.execRecordComplete bytes ending s
  | .detectionEntryTaken => Sys2Proof.Machine.execDetectionEntryTaken s
  | .pieceEntryTaken => Sys2Proof.Machine.execPieceEntryTaken s
  | .decisionPointReached id => Sys2Proof.Machine.execDecisionPointReached id s
  | .retirementCountReached id => Sys2Proof.Machine.execRetirementCountReached id s
  | .startOfFrame run => Sys2Proof.Machine.execStartOfFrame run s
  | .requiredCountLowered run => Sys2Proof.Machine.execRequiredCountLowered run s
  | .slotStart run => Sys2Proof.Machine.execSlotStart run s
  | .arbitrationLost => Sys2Proof.Machine.execArbitrationLost s
  | .bitError => Sys2Proof.Machine.execBitError s
  | .sendSuccess => Sys2Proof.Machine.execSendSuccess s
  | .frameReceived bytes => Sys2Proof.Machine.execFrameReceived bytes s
  | .frameDiscarded cause run => Sys2Proof.Machine.execFrameDiscarded cause run s
  | .listeningTimerEnd => Sys2Proof.Machine.execListeningTimerEnd s
  | .heartbeatTimerExpiry => Sys2Proof.Machine.execHeartbeatTimerExpiry s
  | .supervisionDeadline node => Sys2Proof.Machine.execSupervisionDeadline node s
  | .slotDeadlineStale place => Sys2Proof.Machine.execSlotDeadlineStale place s
  | .claimEntryTaken => Sys2Proof.Machine.execClaimEntryTaken s
  | .releaseEntryTaken => Sys2Proof.Machine.execReleaseEntryTaken s
  | .firedEntryTaken => Sys2Proof.Machine.execFiredEntryTaken s
  | .openCountReached id => Sys2Proof.Machine.execOpenCountReached id s
  | .closeCountReached id => Sys2Proof.Machine.execCloseCountReached id s
  | .guardExpiry id => Sys2Proof.Machine.execGuardExpiry id s
  | .transferComplete returned => Sys2Proof.Machine.execTransferComplete returned s
  | .pressureOkActive => Sys2Proof.Machine.execPressureOkActive s
  | .pressureOkInactive => Sys2Proof.Machine.execPressureOkInactive s
  | .chargeTimerExpiry => Sys2Proof.Machine.execChargeTimerExpiry s
  | .standbyTimerExpiry => Sys2Proof.Machine.execStandbyTimerExpiry s
  | .confirmEntryTaken => Sys2Proof.Machine.execConfirmEntryTaken s
  | .arrivalEntryTaken => Sys2Proof.Machine.execArrivalEntryTaken s
  | .expectationExpiry id => Sys2Proof.Machine.execExpectationExpiry id s
  | .heldArrivalLeave => Sys2Proof.Machine.execHeldArrivalLeave s
  | .haltingEnd => Sys2Proof.Machine.execHaltingEnd s
  | .loadProfile arg => Sys2Proof.Machine.execLoadProfile arg s
  | .start arg => Sys2Proof.Machine.execStart arg s
  | .halt arg => Sys2Proof.Machine.execHalt arg s
  | .resumeLink arg => Sys2Proof.Machine.execResumeLink arg s
  | .editValveMap arg => Sys2Proof.Machine.execEditValveMap arg s
  | .readValveMap arg => Sys2Proof.Machine.execReadValveMap arg s
  | .readStatus arg => Sys2Proof.Machine.execReadStatus arg s
  | .readPeers arg => Sys2Proof.Machine.execReadPeers arg s
  | .readOutcomes arg => Sys2Proof.Machine.execReadOutcomes arg s
  | .removeOutcomes arg => Sys2Proof.Machine.execRemoveOutcomes arg s
  | .clearEvents arg => Sys2Proof.Machine.execClearEvents arg s
  | .setEventMask arg => Sys2Proof.Machine.execSetEventMask arg s
  | .reset arg => Sys2Proof.Machine.execReset arg s
  | .badCommandCode code arg => Sys2Proof.Machine.execBadCommandCode code arg s
  | .portTransactionAbandoned => Sys2Proof.Machine.execPortTransactionAbandoned s
  | .stationReset cause => Sys2Proof.Machine.execStationReset cause s
  | .powerOnReset => Sys2Proof.Machine.execPowerOnReset s

end Sys2Proof.Machine
end

