-- ==== Sys2Proof/Machine/Step.lean ====
section
/-! DEFINITION. One step: the command at the front of the queue is taken and carried out with the queue's rest. -/

namespace Sys2Proof.Machine

/-- 0.1 ms of the reference passes with no command waiting (assumption log 1). -/
def idle (s : State) : State := { s with clock := s.clock + 1 }

/-- One step of the part (assumption log 1). -/
def step (s : State) : Host.Outcome State Fault Refusal :=
  match s.pending with
  | [] => .next (idle s)
  | c :: rest => exec c { s with pending := rest }

/-- The command a table word spells, put at the front of the queue; no word spells one. -/
def State.withFetchWord (s : State) (nbits w : Nat) : State :=
  match decodeTableWord nbits w with
  | none => s
  | some c => { s with pending := c :: s.pending }

/-- A transaction on the station port: the command of its bytes joins the queue (R189). -/
def State.withTransaction (s : State) (bytes : List Byte) : State :=
  { s with pending := s.pending ++ [transactionCommand bytes] }

end Sys2Proof.Machine
end

