-- ==== Sys2Proof/Safety.lean ====
section
/-! DEFINITION. What counts as a sound state: the capacities and the laws that the spec says hold at every moment. -/

namespace Sys2Proof.Machine

/-- Every queue, table and list that keeps its own bound lies within the capacity its rule gives (00 §4.1). The own-claim list is
not among them: its bound follows from the slots and the urgent queue (R131). -/
structure WithinCapacity (s : State) : Prop where
  ring : s.belt.ring.length ≤ Config.ringSize
  intake : s.intake.queue.length ≤ Config.intakeSize
  tracks : s.engine.tracks.length ≤ Config.trackSize
  slots : s.link.slots.length ≤ Config.slotSize
  general : s.accept.general.length ≤ Config.generalSize
  urgent : s.accept.urgent.length ≤ Config.urgentSize
  dropNotices : s.claim.dropNotices.length ≤ Config.dropNoticeSize
  entries : s.sched.entries.length ≤ Config.scheduleSize
  recent : s.valves.recent.length ≤ Config.recentSize
  expectations : s.chute.expectations.length ≤ Config.expectationSize
  held : s.chute.held.length ≤ Config.heldSize
  outcomes : s.port.outcomes.length ≤ Config.outcomeSize
  contributors : ∀ t ∈ s.engine.tracks, t.contributors.length ≤ Config.contributorSize
  acceptance : (prof s).acceptance.length ≤ Config.acceptSize

/-- The valve map obeys its laws (R170). -/
def MapLawful (s : State) : Prop := mapLaw s.valves.valve = true

/-- The bar link holds the drive and the pilot as the schedule and the supply set them (R163). -/
def BarInStep (s : State) : Prop := s.bar.drive = driveOf s ∧ s.bar.pilot = pilotOpen s

/-- Every valve an OPEN entry drives is ACTIVE (R163). -/
def DrivesActive (s : State) : Prop :=
  ∀ e ∈ s.sched.entries, e.state = .opened → ∀ v : Fin 64, e.drive.getLsbD v = true → s.valves.valve[v].descriptor = .active

/-- Every track has a key of its own, and the next key is unused: the model's naming of records. -/
def KeysFresh (s : State) : Prop :=
  (s.engine.tracks.map (·.key)).Nodup ∧ ∀ t ∈ s.engine.tracks, t.key < s.engine.nextKey

/-- The IDs a track answers to: its primary and its alias (R33). -/
def idsOf (t : Track) : List PieceId := t.primary :: t.aliasId.toList

/-- The laws of the track table that do not need the order of D: at most 128 tracks, no ID shared (R32), no key shared. -/
structure TableLawful (s : State) : Prop where
  keys : KeysFresh s
  size : s.engine.tracks.length ≤ Config.trackSize
  ids : (s.engine.tracks.flatMap idsOf).Nodup

/-- The table in ascending order of D by signed difference (R32). -/
def InTableOrder (s : State) : Prop := s.engine.tracks.Pairwise fun a b => 0 ≤ signedDiff b.d a.d

/-- Every D lies well within half the count's range of a count `c`, so that the order of D is well defined (R32). -/
def DsNear (c : Count) (s : State) : Prop := ∀ t ∈ s.engine.tracks, (signedDiff t.d c).natAbs < 536870912

/-- An entry is OPEN only while the supply is READY or LOW (R163). -/
def OpensOnAir (s : State) : Prop :=
  ∀ e ∈ s.sched.entries, e.state = .opened → s.air.supply = .ready ∨ s.air.supply = .low

/-- What keeps the plenum law of R163: the load at every count lies within the plenum limit, and with it what the windows of later
admissions rest on (speeds and on-times in their ranges, windows that do not end before they open, a schedule that is empty
wherever a profile can be loaded). -/
structure PlenumLawful (s : State) : Prop where
  load : ∀ x : Count, loadAt s.sched.entries 0 x ≤ (prof s).plenumLimit
  spans : ∀ e ∈ s.sched.entries, 0 ≤ signedDiff e.closeCount e.openCount
  atWork : s.sched.entries ≠ [] → working s = true
  figures : ∀ i : Fin 4, s.belt.windowList[i] ≤ 4095
  speed : s.belt.speed ≤ 4095
  times : (prof s).minOnTime ≤ 100 ∧ (prof s).maxOnTime ≤ 2000

/-- The outcome watermark of a held profile is at least 1, as the check of field 43 leaves it (R192, 11 §11.3). -/
def WatermarkSet (s : State) : Prop := ∀ p, s.port.profile = some p → 1 ≤ p.watermark

/-- A frame is driven only while the link is ACTIVE (R84). -/
def DrivesWhenActive (s : State) : Prop := driving s = true → s.link.state = .active

/-- A valve with its descriptor alone. -/
def bareValve (v : Valve) : Valve := { Valve.fresh with descriptor := v.descriptor }

/-- A state with everything blanked that departures, claims and evaluations may change. -/
def spine (s : State) : State :=
  { s with
    engine :=
      { Engine.reset with
        mode := s.engine.mode
        returnCounter := s.engine.returnCounter
        turn := s.engine.turn
        ownSequence := s.engine.ownSequence
        passed := s.engine.passed
        trackFull := s.engine.trackFull }
    link.slots := []
    link.nextHandle := 0
    members.skipped := 0
    claim := Claim.reset
    sched := Sched.reset
    valves.valve := s.valves.valve.map bareValve
    valves.recent := []
    valves.recentDrops := 0
    air := { Air.reset with pressureOk := s.air.pressureOk }
    chute.confirmUnsent := 0
    port.outcomes := []
    port.lostOutcomes := 0
    port.flags := 0 }

/-- In a table split at `t`, R38 chooses `t` for an extent: no candidate has a higher score, one of the same score lies no earlier
along the belt, and one of the same score and D stands later. -/
def ChosenFor (p : Profile) (x : Extent) (before : List Track) (t : Track) (after : List Track) : Prop :=
  isCandidate p x t = true
    ∧ (∀ u ∈ before, isCandidate p x u = true →
      overlapScore x u < overlapScore x t ∨ overlapScore x u = overlapScore x t ∧ 0 < signedDiff u.d t.d)
    ∧ ∀ u ∈ after, isCandidate p x u = true →
      overlapScore x u < overlapScore x t ∨ overlapScore x u = overlapScore x t ∧ 0 ≤ signedDiff u.d t.d

/-- A track that R54 does not evict: linked, its retirement held, owned by this station, or the one a split passes over. -/
def StaysAtEviction (s : State) (passOver : Option Track) (t : Track) : Prop :=
  (∃ e ∈ s.sched.entries, e.track = t.key) ∨ t.heldRetirement = true ∨ t.owner = some (prof s).node ∨ passOver = some t

/-- From an own sequence number on, `q` is the first of at most 257 that no track of a table answers to (R30). -/
def FirstFree (node : Node) (tracks : List Track) (start q : Fin 4096) : Prop :=
  ∃ k : Nat, k ≤ 256 ∧ q = start + Fin.ofNat 4096 k ∧ (∀ t ∈ tracks, ⟨node, q⟩ ∉ idsOf t)
    ∧ ∀ j < k, ∃ t ∈ tracks, ⟨node, start + Fin.ofNat 4096 j⟩ ∈ idsOf t

/-- A measuring datum replaces a position source: it is known, and larger than any source there is (R48). -/
def Replaces (datum source : Option (BitVec 24)) : Prop := ∃ m, datum = some m ∧ ∀ n, source = some n → n < m

/-- A property every step keeps. -/
def KeptByEveryStep (P : State → Prop) : Prop := ∀ s t, P s → step s = .next t → P t

/-- Notices whose fields lie in the ranges of their layouts (R99, R103). -/
def WireFits : Wire → Prop
  | .heartbeat h => (h.sense || h.eject || h.check) = true ∧ 20 ≤ h.period.toNat ∧ h.period.toNat ≤ 250
  | .piece _ i => i.length ≠ 0 ∧ i.laneLo ≤ i.laneHi ∧ i.pairs.length ≤ 4
  | .fired _ i =>
    i.first ≤ i.last ∧ i.valves ≠ 0 ∧ i.valves.toNat ≤ i.last.val - i.first.val + 1 ∧ (i.first = i.last ∨ 2 ≤ i.valves.toNat)
  | .claim _ _ | .release _ _ | .confirm _ _ _ => True

end Sys2Proof.Machine
end

