-- ==== Sys2Proof/Certificates/Slice0/Obligations.lean ====
section
/-! DEFINITION. The statements for the provers, from the numbered rules of the spec. -/

open Sys2Proof Sys2Proof.Machine

/-! ### Steps -/

/-- A step with a command at the front of the queue is exec of that command on the state with the queue's rest. The model's
choices it rests on: assumption log 1. -/
def Obligations.StepCarriesOutTheFrontCommand : Prop :=
  ∀ (c : Instr) (s : State), step { s with pending := c :: s.pending } = exec c s

/-- No command faults and none is refused, in any state: no rule of the spec stops the part. The model's choices it rests
on: assumption log 3. -/
def Obligations.EveryCommandAnswersANextState : Prop := ∀ (c : Instr) (s : State), ∃ t, exec c s = .next t

/-! ### The belt position unit (chapter 1) -/

/-- R1, R6, R7, R164: an edge steps the count by one and is tallied while a window runs; both phases changed at once is no
movement. A reverse count in a running window also spoils it and declares REVERSING at once: from another state it closes
the OPEN entries, and from RUNNING or SLOW it flags the stop of a RUNNING station's line. The model's choices it rests on:
assumption log 6. -/
def Obligations.EncoderEdgeStepsTheBeltCount : Prop :=
  ∀ s : State,
    exec (.encoderEdge .bothChanged) s = .next s
    ∧ exec (.encoderEdge .forward) s
      = .next
          { s with
            belt.count := s.belt.count + 1
            belt.forward := if s.belt.windowTimer.isSome then s.belt.forward + 1 else s.belt.forward }
    ∧ (s.belt.windowTimer = none → exec (.encoderEdge .reverse) s = .next { s with belt.count := s.belt.count - 1 })
    ∧ (s.belt.windowTimer.isSome = true →
      ∃ t, exec (.encoderEdge .reverse) s = .next t
        ∧ t.belt
          = { s.belt with
              count := s.belt.count - 1
              reverse := s.belt.reverse + 1
              reverseFree := false
              motion := .reversing }
        ∧ t.sched.entries
          = (if s.belt.motion = .reversing then s.sched.entries
            else s.sched.entries.filter fun e => !(s.sched.entries.any fun o => o.state = .opened && o.track = e.track))
        ∧ ((s.belt.motion = .running ∨ s.belt.motion = .slow) → s.port.station = .running → t.port.flags.getLsbD 10 = true)
        ∧ spine { t with belt := s.belt, bar := s.bar } = spine s)

/-- R4 to R7, R9, R164: a window end shifts the window's forward figure into the list, sets S to the floor of the mean, and
begins the next window with cleared tallies; the zero run and the motion state follow from the net movement and the new S,
and REVERSING is left by one clean forward window alone. A RUNNING station's line that stops is flagged, a change to any
state but RUNNING closes the OPEN entries, and a strobe that fell due while REVERSING is issued as that state is left. With
the timer stopped no window ends (R3). The model's choices it rests on: assumption log 2, 3, 37, 39. -/
def Obligations.WindowEndMeasuresTheSpeed : Prop :=
  ∀ s : State,
    (s.belt.windowTimer = none → exec .speedWindowEnd s = .next s)
    ∧ ∀ t0, s.belt.windowTimer = some t0 →
      ∃ t, exec .speedWindowEnd s = .next t
        ∧ t.belt.windowList
          = #v[s.belt.windowList[1], s.belt.windowList[2], s.belt.windowList[3],
              min 4095 (s.belt.forward - s.belt.reverse)]
        ∧ t.belt.speed
          = (s.belt.windowList[1] + s.belt.windowList[2] + s.belt.windowList[3]
              + min 4095 (s.belt.forward - s.belt.reverse)) / 4
        ∧ (s.belt.motion ≠ .reversing →
          t.belt.zeroRun = (if s.belt.forward = s.belt.reverse then min 2 (s.belt.zeroRun + 1) else 0)
          ∧ t.belt.motion
            = (if t.belt.zeroRun = 2 then .stopped else if t.belt.speed < (prof s).sMin then .slow else .running))
        ∧ (s.belt.motion = .reversing →
          if s.belt.beganReversing = true ∧ s.belt.reverseFree = true ∧ s.belt.reverse < s.belt.forward then
            t.belt.zeroRun = 0 ∧ t.belt.motion = (if t.belt.speed < (prof s).sMin then .slow else .running)
          else t.belt.zeroRun = s.belt.zeroRun ∧ t.belt.motion = .reversing)
        ∧ t.belt.beganReversing = decide (t.belt.motion = .reversing)
        ∧ t.belt.forward = 0 ∧ t.belt.reverse = 0 ∧ t.belt.reverseFree = true
        ∧ t.belt.windowTimer = some (t0 + 160) ∧ t.belt.count = s.belt.count ∧ t.belt.frameLatch = s.belt.frameLatch
        ∧ t.clock = max s.clock t0
        ∧ t.port.flags.getLsbD 10
          = (s.port.flags.getLsbD 10
            || decide ((s.belt.motion = .running ∨ s.belt.motion = .slow) ∧ t.belt.motion = .stopped
                ∧ s.port.station = .running))
        ∧ t.sched.entries
          = (if t.belt.motion = s.belt.motion ∨ t.belt.motion = .running then s.sched.entries
            else s.sched.entries.filter fun e => !(s.sched.entries.any fun o => o.state = .opened && o.track = e.track))
        ∧ (if s.belt.motion = .reversing ∧ t.belt.motion ≠ .reversing ∧ s.port.station = .running
              ∧ reached s s.belt.nextStrobe = true ∧ s.belt.strobeWord = none then
            t.belt.scanNumber = s.belt.scanNumber + 1
            ∧ t.belt.ring = (s.belt.ring ++ [(s.belt.scanNumber + 1, s.belt.count)]).drop (s.belt.ring.length + 1 - 256)
            ∧ t.belt.nextStrobe = s.belt.count + BitVec.ofNat 32 (prof s).scanPitch
            ∧ t.belt.strobeWord = some (s.belt.scanNumber + 1)
          else
            t.belt.scanNumber = s.belt.scanNumber ∧ t.belt.ring = s.belt.ring ∧ t.belt.nextStrobe = s.belt.nextStrobe
            ∧ t.belt.strobeWord = s.belt.strobeWord ∧ t.engine.mode = s.engine.mode
            ∧ t.engine.returnCounter = s.engine.returnCounter)
        ∧ spine
            { t with
              clock := s.clock
              belt := s.belt
              bar := s.bar
              engine.mode := s.engine.mode
              engine.returnCounter := s.engine.returnCounter }
          = spine s

/-- R8, R9, R10, R25, R26: a strobe is issued when the four conditions hold, and then only; the end of a word frees the
output and issues a strobe that fell due meanwhile. In QUICK, but for QUICK-only, both fills at or below their low levels
advance the return counter, which turns the mode to FULL at R; any other fill clears it. The model's choices it rests on:
assumption log 3, 8. -/
def Obligations.DueStrobeIsIssued : Prop :=
  ∀ s : State,
    ((s.port.station = .running ∧ reached s s.belt.nextStrobe = true ∧ s.belt.motion ≠ .reversing
        ∧ s.belt.strobeWord = none) →
      exec .scanStrobe s
        = .next
            { s with
              belt.scanNumber := s.belt.scanNumber + 1
              belt.ring := (s.belt.ring ++ [(s.belt.scanNumber + 1, s.belt.count)]).drop (s.belt.ring.length + 1 - 256)
              belt.nextStrobe := s.belt.count + BitVec.ofNat 32 (prof s).scanPitch
              belt.strobeWord := some (s.belt.scanNumber + 1)
              engine :=
                if s.engine.mode = .full ∨ (prof s).quickOnly = true then s.engine
                else if s.intake.queue.length ≤ (prof s).intakeLow ∧ s.accept.general.length ≤ (prof s).generalLow then
                  if (prof s).returnScans ≤ s.engine.returnCounter + 1 then
                    { s.engine with mode := .full, returnCounter := 0 }
                  else { s.engine with returnCounter := s.engine.returnCounter + 1 }
                else { s.engine with returnCounter := 0 } })
    ∧ (¬(s.port.station = .running ∧ reached s s.belt.nextStrobe = true ∧ s.belt.motion ≠ .reversing
        ∧ s.belt.strobeWord = none) → exec .scanStrobe s = .next s)
    ∧ (s.belt.strobeWord = none → exec .strobeWordEnd s = .next s)
    ∧ (s.belt.strobeWord ≠ none → exec .strobeWordEnd s = exec .scanStrobe { s with belt.strobeWord := none })

/-! ### The detection intake (chapter 2) -/

/-- R15, R18, R19, R20, R24: bytes shifted in while record enable stays asserted are kept as the record in reception, and
the release completes the record. One none of whose checks fails is converted from the ring and joins the intake queue as
its newest entry, a fill that rises to the high level turning the mode to QUICK; a DETECTION in HALTING is discarded
uncounted. The model's choices it rests on: assumption log 5, 11, 40. -/
def Obligations.GoodRecordsJoinTheIntakeQueue : Prop :=
  ∀ (s : State) (held bytes r : List Byte) (lead trail : Count),
    (s.intake.reception = .idle ∧ held = [] ∨ s.intake.reception = .receiving held) → r = held ++ bytes →
    exec (.recordComplete bytes .held) s = .next { s with intake.reception := .receiving r }
    ∧ (malformed r false s = false → scanCounts r s = some (lead, trail) → s.intake.queue.length < 32 →
      (u8 r 0 / 16 = 1 → s.port.station = .running →
        exec (.recordComplete bytes (.released false)) s
          = .next
              { s with
                intake.reception := .idle
                intake.queue :=
                  s.intake.queue
                    ++ [.detection
                        { d := lead
                          length := (max 1 (min 4095 ((trail - lead).toInt + (prof s).scanPitch))).toNat
                          laneLo := u8 r 5
                          laneHi := u8 r 6
                          pairs := pairsAt r 7 (u8 r 0 % 8)
                          cluster := bitAt r 0 3 }]
                engine :=
                  if s.intake.queue.length + 1 = (prof s).intakeHigh then { s.engine with mode := .quick, returnCounter := 0 }
                  else s.engine })
      ∧ (u8 r 0 / 16 = 1 → s.port.station = .halting →
        exec (.recordComplete bytes (.released false)) s = .next { s with intake.reception := .idle })
      ∧ (u8 r 0 / 16 = 2 → (s.port.station = .running ∨ s.port.station = .halting) →
        exec (.recordComplete bytes (.released false)) s
          = .next
              { s with
                intake.reception := .idle
                intake.queue := s.intake.queue ++ [.arrival { count := lead, chute := Fin.ofNat 4 (u8 r 0) }]
                engine :=
                  if s.intake.queue.length + 1 = (prof s).intakeHigh then { s.engine with mode := .quick, returnCounter := 0 }
                  else s.engine }))

/-- R15 to R17, R20: a record abandoned by a reset is gone at the release of record enable, whatever the station state, and
one completed outside RUNNING and HALTING changes nothing more; a MALFORMED one and a STALE one are counted and discarded; a
good one that meets a full queue is counted and flagged. The model's choices it rests on: assumption log 5, 11, 40. -/
def Obligations.BadRecordsAreCountedAndDiscarded : Prop :=
  ∀ (s u : State) (held bytes r : List Byte) (partialByte : Bool),
    u = { s with intake.reception := .idle } →
    (s.intake.reception = .abandoned →
      exec (.recordComplete bytes .held) s = .next s ∧ exec (.recordComplete bytes (.released partialByte)) s = .next u)
    ∧ ((s.intake.reception = .idle ∧ held = [] ∨ s.intake.reception = .receiving held) → r = held ++ bytes →
      (s.port.station ≠ .running → s.port.station ≠ .halting →
        exec (.recordComplete bytes (.released partialByte)) s = .next u)
      ∧ ((s.port.station = .running ∨ s.port.station = .halting) →
        ((partialByte = true ∨ (u8 r 0 / 16 ≠ 1 ∧ u8 r 0 / 16 ≠ 2)
            ∨ (u8 r 0 / 16 = 1 ∧ (4 < u8 r 0 % 8 ∨ r.length ≠ 7 + 2 * (u8 r 0 % 8) ∨ u8 r 6 < u8 r 5
                ∨ (trailScan r - leadScan r).toInt < 0 ∨ 0 < (trailScan r - s.belt.scanNumber).toInt
                ∨ (prof s).sense = false))
            ∨ (u8 r 0 / 16 = 2 ∧ (r.length ≠ 3 ∨ (prof s).check = false))
            ∨ 0 < (leadScan r - s.belt.scanNumber).toInt) →
          exec (.recordComplete bytes (.released partialByte)) s
            = .next { u with intake.malformed := bump s.intake.malformed })
        ∧ (malformed r partialByte s = false →
          (scanCount s (leadScan r) = none
            ∨ ∃ lead, scanCount s (leadScan r) = some lead ∧ 4194304 < ((lead - s.belt.count).toInt).natAbs) →
          exec (.recordComplete bytes (.released partialByte)) s = .next { u with intake.stale := bump s.intake.stale })
        ∧ (malformed r partialByte s = false → (scanCounts r s).isSome = true → 32 ≤ s.intake.queue.length →
          (s.port.station = .running ∨ u8 r 0 / 16 = 2) →
          exec (.recordComplete bytes (.released partialByte)) s
            = .next (raiseFlag .intakeDrop { u with intake.dropped := bump s.intake.dropped }))))

/-! ### The tracking engine (chapters 3 and 4) -/

/-- R52, R53, R55, R146: a reached retirement count takes an unlinked track out of the table, its flags counted, the
table-full condition cleared and its own-claim records orphaned; a linked track's retirement is held. A count not reached,
or a station outside RUNNING and HALTING, changes nothing. The model's choices it rests on: assumption log 3, 11. -/
def Obligations.RetirementTakesAnUnlinkedTrackOut : Prop :=
  ∀ (s : State) (id : PieceId) (t : Track), trackOf id s = some t →
    ((s.port.station = .running ∨ s.port.station = .halting) →
      reached s (t.d + BitVec.ofNat 32 t.length + BitVec.ofNat 32 (prof s).horizon) = true →
      ((∀ e ∈ s.sched.entries, e.track ≠ t.key) →
        exec (.retirementCountReached id) s
          = .next
              { s with
                engine.tracks := s.engine.tracks.filter fun u => u.key ≠ t.key
                engine.tableFull := false
                engine.unannounced := if t.unannounced then bump s.engine.unannounced else s.engine.unannounced
                engine.crowded := if t.crowded then bump s.engine.crowded else s.engine.crowded
                engine.split := if t.split then bump s.engine.split else s.engine.split
                claim.ownClaims :=
                  s.claim.ownClaims.map fun r =>
                    if t.primary = r.id ∨ t.aliasId = some r.id then { r with orphan := true } else r })
      ∧ ((∃ e ∈ s.sched.entries, e.track = t.key) →
        exec (.retirementCountReached id) s
          = .next
              { s with
                engine.tracks :=
                  s.engine.tracks.map fun u => if u.key = t.key then { u with heldRetirement := true } else u }))
    ∧ ((s.port.station ≠ .running ∧ s.port.station ≠ .halting
        ∨ reached s (t.d + BitVec.ofNat 32 t.length + BitVec.ofNat 32 (prof s).horizon) = false) →
      exec (.retirementCountReached id) s = .next s)

/-- R34, R35, R42: the oldest PIECE entry leaves the general queue. OWN, in HALTING, and at a station that keeps no tracks,
it is discarded uncounted; a peer's piece already past the horizon is counted PASSED. -/
def Obligations.PieceEntriesThatAreDiscarded : Prop :=
  ∀ (s : State) (e : QueueEntry) (rest : List QueueEntry), BarInStep s →
    takeFirst isPiece s.accept.general = some (e, rest) → s.engine.turn = .general →
    ((s.port.station = .halting
        ∨ s.port.station = .running ∧ (e.own = true ∨ ((prof s).sense = false ∧ (prof s).eject = false))) →
      exec .pieceEntryTaken s = .next { s with accept.general := rest, engine.turn := .intake })
    ∧ ∀ pos info, e.wire = .piece pos info → s.port.station = .running → e.own = false →
      ((prof s).sense = true ∨ (prof s).eject = true) →
      reached s
          (e.latch + BitVec.ofNat 32 (prof s).datum.toNat - BitVec.ofNat 32 pos.toNat
            + BitVec.ofNat 32 info.length.toNat + BitVec.ofNat 32 (prof s).horizon) = true →
      exec .pieceEntryTaken s
        = .next
            { s with
              accept.general := rest
              engine.turn := .intake
              engine.passed := bump s.engine.passed }

/-- R29, R31, R32, R38, R42 to R48, R54, R55, R58: a peer's PIECE that is not PASSED is applied to the track its ID names,
or to the best candidate of an unknown ID, the two IDs merged where the alias is free. It brings CLUSTER and its
contribution, and a larger datum the new position; else, or where that candidate has an alias, it becomes a track of its
own. A full table evicts the first track it may, or drops the notice. Stated without EJECT, and for QUICK before the
decision point. The model's choices it rests on: assumption log 5, 11. -/
def Obligations.PieceNoticesJoinTheTrackTable : Prop :=
  ∀ (s : State) (e : QueueEntry) (rest : List QueueEntry) (pos : BitVec 24) (info : PieceInfo) (x : Extent)
    (source : Option (BitVec 24)) (fresh : Bool → Track) (before after : List Track),
    BarInStep s → TableLawful s → s.port.station = .running →
    (s.engine.turn = .general ∨ ∀ y ∈ s.intake.queue, isDetection y = false) →
    ((prof s).sense = true ∨ (prof s).eject = true) →
    takeFirst isPiece s.accept.general = some (e, rest) → e.wire = .piece pos info → e.own = false →
    x
      = { d := e.latch + BitVec.ofNat 32 (prof s).datum.toNat - BitVec.ofNat 32 pos.toNat
          length := info.length.toNat
          laneLo := info.laneLo.toNat
          laneHi := info.laneHi.toNat } →
    reached s (x.d + BitVec.ofNat 32 x.length + BitVec.ofNat 32 (prof s).horizon) = false →
    ((prof s).eject = false
      ∨ s.engine.mode = .quick
        ∧ reached s (x.d + BitVec.ofNat 32 (prof s).barOffset - BitVec.ofNat 32 (prof s).decisionLead) = false) →
    source
      = (if presentForDecisions s.members.peers[e.origin].state then s.members.peers[e.origin].content.map (·.datum)
        else none) →
    (fresh = fun split =>
      { key := s.engine.nextKey
        primary := info.id
        aliasId := none
        d := x.d
        length := x.length
        laneLo := x.laneLo
        laneHi := x.laneHi
        source := source
        accumulators := addPairs (prof s).weights[info.kind] 16 info.pairs (Vector.replicate 16 0)
        contributors := [(e.origin, info.kind)]
        cluster := info.cluster
        crowded := false
        split := split
        unannounced := false
        lateEvidence := false
        decision := .stillOpen
        pointMet := false
        heldRetirement := false
        own := .none
        owner := none
        releasedBy := []
        firedBy := none }) →
    (∀ (t m c u : Track), s.engine.tracks = before ++ t :: after → t.own ≠ .owned →
      (info.id ∈ idsOf t ∧ m = t
        ∨ (∀ v ∈ s.engine.tracks, info.id ∉ idsOf v) ∧ ChosenFor (prof s) x before t after ∧ t.aliasId = none
          ∧ m
            = (if info.id.node < t.primary.node ∨ info.id.node = t.primary.node ∧ info.id.seq < t.primary.seq then
                { t with primary := info.id, aliasId := some t.primary }
              else { t with aliasId := some info.id })) →
      c
        = (if (e.origin, info.kind) ∈ t.contributors then { m with cluster := t.cluster || info.cluster }
          else if 6 ≤ t.contributors.length then { m with cluster := t.cluster || info.cluster, crowded := true }
          else
            { m with
              cluster := t.cluster || info.cluster
              contributors := t.contributors ++ [(e.origin, info.kind)]
              accumulators := addPairs (prof s).weights[info.kind] 16 info.pairs t.accumulators }) →
      u = { c with d := x.d, length := x.length, laneLo := x.laneLo, laneHi := x.laneHi, source := source } →
      (Replaces source t.source →
        exec .pieceEntryTaken s
          = .next
              { s with
                accept.general := rest
                engine.turn := .intake
                engine.tracks := insertBefore (fun v => 0 < (v.d - x.d).toInt) u (before ++ after) })
      ∧ (¬ Replaces source t.source →
        reached s (t.d + BitVec.ofNat 32 t.length + BitVec.ofNat 32 (prof s).horizon) = false →
        exec .pieceEntryTaken s
          = .next { s with accept.general := rest, engine.turn := .intake, engine.tracks := before ++ c :: after }))
    ∧ ∀ (split : Option Track) (marked : Track → Track), (∀ v ∈ s.engine.tracks, info.id ∉ idsOf v) →
      (split = none ∧ (∀ v ∈ s.engine.tracks, isCandidate (prof s) x v = false)
        ∨ ∃ t, split = some t ∧ s.engine.tracks = before ++ t :: after ∧ ChosenFor (prof s) x before t after
          ∧ t.aliasId ≠ none) →
      (marked = fun v => if split = some v then { v with split := true } else v) →
      (s.engine.tracks.length < 128 →
        exec .pieceEntryTaken s
          = .next
              { s with
                accept.general := rest
                engine.turn := .intake
                engine.nextKey := s.engine.nextKey + 1
                engine.tracks :=
                  insertBefore (fun v => 0 < (v.d - x.d).toInt) (fresh split.isSome) (s.engine.tracks.map marked) })
      ∧ (∀ older v newer, s.engine.tracks.length = 128 → s.engine.tracks = older ++ v :: newer →
        (∀ w ∈ older, StaysAtEviction s split w) → ¬ StaysAtEviction s split v →
        exec .pieceEntryTaken s
          = .next
              { s with
                accept.general := rest
                engine.turn := .intake
                engine.nextKey := s.engine.nextKey + 1
                engine.evicted := bump s.engine.evicted
                engine.unannounced := if v.unannounced then bump s.engine.unannounced else s.engine.unannounced
                engine.crowded := if v.crowded then bump s.engine.crowded else s.engine.crowded
                engine.split := if v.split then bump s.engine.split else s.engine.split
                engine.tracks :=
                  insertBefore (fun w => 0 < (w.d - x.d).toInt) (fresh split.isSome) ((older ++ newer).map marked)
                claim.ownClaims :=
                  s.claim.ownClaims.map fun r => if r.id ∈ idsOf v then { r with orphan := true } else r })
      ∧ (s.engine.tracks.length = 128 → (∀ w ∈ s.engine.tracks, StaysAtEviction s split w) →
        exec .pieceEntryTaken s
          = .next
              (raiseFlag .trackFull
                { s with
                  accept.general := rest
                  engine.turn := .intake
                  engine.trackFull := bump s.engine.trackFull
                  engine.tableFull := true }))

/-- R29 to R32, R34, R37 to R41, R48, R50, R51, R54, R55, R60, R93: a detection is applied to its matched track, the best
candidate in FULL and the first in QUICK, bringing CLUSTER and its contribution by the overlap factor, and from a larger
datum the new position; with no candidate it becomes a track under the next own ID that no track answers to. Either way a
PIECE under the track's primary ID is requested, and a refused one leaves UNANNOUNCED. A full table evicts the first track
it may, or drops the detection. After an eviction the new ID is formed with the evicted track gone, so an ID of that track
is free again: that is the model's choice (assumption log 15). Left out: EJECT in FULL, a matched track that is OWNED, and
with EJECT in QUICK a decision point already reached. The model's choices it rests on: assumption log 5, 11, 15, 16. -/
def Obligations.DetectionsJoinTheTrackTable : Prop :=
  ∀ (s : State) (e : Detection) (rest : List IntakeEntry) (x : Extent) (fresh : PieceId → Track)
    (sent : PieceId → Link) (taken : Bool) (before after : List Track),
    BarInStep s → TableLawful s → s.port.station = .running →
    (s.engine.turn = .intake ∨ ∀ y ∈ s.accept.general, isPiece y = false) →
    takeFirst isDetection s.intake.queue = some (.detection e, rest) →
    x = { d := e.d, length := e.length, laneLo := e.laneLo, laneHi := e.laneHi } →
    reached s (e.d + BitVec.ofNat 32 e.length + BitVec.ofNat 32 (prof s).horizon) = false →
    ((prof s).eject = false
      ∨ s.engine.mode = .quick
        ∧ reached s (e.d + BitVec.ofNat 32 (prof s).barOffset - BitVec.ofNat 32 (prof s).decisionLead) = false) →
    reached s (s.belt.count + BitVec.ofNat 32 (prof s).announceLifetime) = false →
    taken = decide ((s.link.state = .active ∨ s.link.state = .listening) ∧ s.link.slots.length < 8) →
    (sent = fun id =>
      if taken then
        { s.link with
          nextHandle := s.link.nextHandle + 1
          slots :=
            s.link.slots
              ++ [{ handle := s.link.nextHandle
                    status := .pending
                    notice :=
                      .piece e.d
                        { id := id
                          length := BitVec.ofNat 12 e.length
                          laneLo := byteOf e.laneLo
                          laneHi := byteOf e.laneHi
                          kind := (prof s).localKind
                          mode := s.engine.mode
                          cluster := e.cluster
                          pairs := e.pairs }
                    deadline := some (s.belt.count + BitVec.ofNat 32 (prof s).announceLifetime)
                    deadlineMet := false
                    failedAttempts := 0
                    latch := none }] }
      else s.link) →
    (fresh = fun id =>
      { key := s.engine.nextKey
        primary := id
        aliasId := none
        d := e.d
        length := e.length
        laneLo := e.laneLo
        laneHi := e.laneHi
        source := some (prof s).datum
        accumulators := addPairs (prof s).weights[(prof s).localKind] 16 e.pairs (Vector.replicate 16 0)
        contributors := [((prof s).node, (prof s).localKind)]
        cluster := e.cluster
        crowded := false
        split := false
        unannounced := !taken
        lateEvidence := false
        decision := .stillOpen
        pointMet := false
        heldRetirement := false
        own := .none
        owner := none
        releasedBy := []
        firedBy := none }) →
    (∀ (t m c u : Track), s.engine.tracks = before ++ t :: after → t.own ≠ .owned →
      (s.engine.mode = .full ∧ ChosenFor (prof s) x before t after
        ∨ s.engine.mode = .quick ∧ isCandidate (prof s) x t = true
          ∧ ∀ v ∈ before, isCandidate (prof s) x v = false) →
      m = { t with cluster := t.cluster || e.cluster, unannounced := t.unannounced || !taken } →
      c
        = (if ((prof s).node, (prof s).localKind) ∈ t.contributors then m
          else if 6 ≤ t.contributors.length then { m with crowded := true }
          else
            { m with
              contributors := t.contributors ++ [((prof s).node, (prof s).localKind)]
              accumulators :=
                addPairs (prof s).weights[(prof s).localKind]
                  (if s.engine.mode = .quick then 16
                  else 16 * (min e.laneHi t.laneHi + 1 - max e.laneLo t.laneLo) / (e.laneHi - e.laneLo + 1))
                  e.pairs t.accumulators }) →
      u
        = { c with
            d := e.d
            length := e.length
            laneLo := e.laneLo
            laneHi := e.laneHi
            source := some (prof s).datum } →
      (Replaces (some (prof s).datum) t.source →
        exec .detectionEntryTaken s
          = .next
              { s with
                intake.queue := rest
                engine.turn := .general
                engine.tracks := insertBefore (fun v => 0 < (v.d - e.d).toInt) u (before ++ after)
                link := sent t.primary })
      ∧ (¬ Replaces (some (prof s).datum) t.source →
        reached s (t.d + BitVec.ofNat 32 t.length + BitVec.ofNat 32 (prof s).horizon) = false →
        exec .detectionEntryTaken s
          = .next
              { s with
                intake.queue := rest
                engine.turn := .general
                engine.tracks := before ++ c :: after
                link := sent t.primary }))
    ∧ ((∀ v ∈ s.engine.tracks, isCandidate (prof s) x v = false) →
      (∀ q, s.engine.tracks.length < 128 → FirstFree (prof s).node s.engine.tracks s.engine.ownSequence q →
        exec .detectionEntryTaken s
          = .next
              { s with
                intake.queue := rest
                engine.turn := .general
                engine.ownSequence := q + 1
                engine.nextKey := s.engine.nextKey + 1
                engine.tracks := insertBefore (fun v => 0 < (v.d - e.d).toInt) (fresh ⟨(prof s).node, q⟩) s.engine.tracks
                link := sent ⟨(prof s).node, q⟩ })
      ∧ (∀ older v newer q, s.engine.tracks.length = 128 → s.engine.tracks = older ++ v :: newer →
        (∀ w ∈ older, StaysAtEviction s none w) → ¬ StaysAtEviction s none v →
        FirstFree (prof s).node (older ++ newer) s.engine.ownSequence q →
        exec .detectionEntryTaken s
          = .next
              { s with
                intake.queue := rest
                engine.turn := .general
                engine.ownSequence := q + 1
                engine.nextKey := s.engine.nextKey + 1
                engine.evicted := bump s.engine.evicted
                engine.unannounced := if v.unannounced then bump s.engine.unannounced else s.engine.unannounced
                engine.crowded := if v.crowded then bump s.engine.crowded else s.engine.crowded
                engine.split := if v.split then bump s.engine.split else s.engine.split
                engine.tracks :=
                  insertBefore (fun w => 0 < (w.d - e.d).toInt) (fresh ⟨(prof s).node, q⟩) (older ++ newer)
                link := sent ⟨(prof s).node, q⟩
                claim.ownClaims :=
                  s.claim.ownClaims.map fun r => if r.id ∈ idsOf v then { r with orphan := true } else r })
      ∧ (s.engine.tracks.length = 128 → (∀ w ∈ s.engine.tracks, StaysAtEviction s none w) →
        exec .detectionEntryTaken s
          = .next
              (raiseFlag .trackFull
                { s with
                  intake.queue := rest
                  engine.turn := .general
                  engine.trackFull := bump s.engine.trackFull
                  engine.tableFull := true })))

/-- R62: c1 is the class whose accumulator is largest, the lowest code on a tie; a2 is the largest among the other classes;
the margin is a1 less a2, 0 when two classes share the largest value. -/
def Obligations.LeadingClassHoldsTheLargestAccumulator : Prop :=
  ∀ acc : Vector Nat 16,
    (∀ c : Fin 16, acc[c] ≤ acc[leadingClass acc])
    ∧ (∀ c : Fin 16, c < leadingClass acc → acc[c] < acc[leadingClass acc])
    ∧ (∀ c : Fin 16, c ≠ leadingClass acc → acc[c] ≤ runnerUp acc)
    ∧ (∃ c : Fin 16, c ≠ leadingClass acc ∧ acc[c] = runnerUp acc)
    ∧ leadMargin acc = acc[leadingClass acc] - runnerUp acc
    ∧ ((∃ c : Fin 16, c ≠ leadingClass acc ∧ acc[c] = acc[leadingClass acc]) → leadMargin acc = 0)
    ∧ ((∀ c : Fin 16, acc[c] ≤ 65535) → leadMargin acc ≤ 65535)

/-- R63 to R66, R71, R75, R131, R136, R137, R140, R151, R152, R155 to R158: at an EJECT station a reached decision point
sets the mark once. With own-state OWNED, LOST or RELEASED_BY_SELF nothing else happens; else the decision is written, an
undecided track counted. With NONE an eligible track makes its request, refused with an outcome record or admitted with a
RESERVED entry and a CLAIM in a slot; an ineligible one makes none. With PENDING another decision gives the claim up as
RECLASSED. The model's choices it rests on: assumption log 3, 5, 11, 36, 38. -/
def Obligations.DecisionPointDecidesAndClaims : Prop :=
  ∀ (s base : State) (id : PieceId) (t : Track) (c : ClassCode) (m : Nat) (d : Decision) (w : Window) (vs : ValveSet)
    (eligible feasible : Prop) (dropped : State → OutcomeRecord → Prop),
    BarInStep s → TableLawful s → trackOf id s = some t →
    (s.port.station = .running ∨ s.port.station = .halting) → (prof s).eject = true →
    reached s (t.d + BitVec.ofNat 32 (prof s).barOffset - BitVec.ofNat 32 (prof s).decisionLead) = true →
    c = leadingClass t.accumulators → m = t.accumulators[c] - runnerUp t.accumulators →
    d
      = (if (prof s).aMin ≤ t.accumulators[c] ∧ (prof s).mMin[c] ≤ m then .decided c m s.engine.mode
        else .undecided s.engine.mode) →
    base
      = { s with
          engine.tracks :=
            s.engine.tracks.map fun u => if u.key = t.key then { u with pointMet := true, decision := d } else u
          engine.undecided :=
            if d = .undecided s.engine.mode then bump s.engine.undecided else s.engine.undecided } →
    w = windowOf (prof s) s.belt.speed t.d t.length c →
    vs = valveSetOf s.valves (prof s).marginLat t.laneLo t.laneHi →
    eligible
      = (d = .decided c m s.engine.mode ∧ (∀ r ∈ s.claim.ownClaims, r.id ∉ idsOf t) ∧ t.owner = none
        ∧ ((prof s).primary.getLsbD c = true
          ∨ (prof s).fallback.getLsbD c = true ∧ (s.members.adopted.getLsbD c = true ∨ t.releasedBy ≠ []))
        ∧ (t.cluster = false ∨ (prof s).clusterPolicy = .eject) ∧ s.accept.overrun = false
        ∧ s.link.state = .active ∧ s.port.station = .running) →
    feasible
      = (s.air.supply = .ready ∨ s.air.supply = .low
        ∨ s.air.supply = .charging
          ∧ ((10 * (prof s).chargeTime * s.belt.speed + 159) / 160 : Nat) ≤ (w.openCount - s.belt.count).toInt) →
    (dropped = fun u rec =>
      u.sched.entries = s.sched.entries.filter (fun e => e.track ≠ t.key)
      ∧ u.port.outcomes = s.port.outcomes ++ [rec] ∧ rec.id = t.primary ∧ rec.result = .reclassed
      ∧ u.engine
        = { base.engine with
            tracks :=
              s.engine.tracks.map fun v =>
                if v.key = t.key then { v with pointMet := true, decision := d, own := .none } else v }
      ∧ u.belt = s.belt ∧ u.accept = s.accept ∧ u.members = s.members ∧ u.valves = s.valves) →
    (t.pointMet = true → exec (.decisionPointReached id) s = .next s)
    ∧ (t.pointMet = false → (t.own = .owned ∨ t.own = .lost ∨ t.own = .releasedBySelf) →
      exec (.decisionPointReached id) s
        = .next
            { s with
              engine.tracks := s.engine.tracks.map fun u => if u.key = t.key then { u with pointMet := true } else u })
    ∧ (t.pointMet = false → t.own = .none →
      (((∃ r ∈ s.claim.ownClaims, r.id ∈ idsOf t) ∨ d = .undecided s.engine.mode
          ∨ ((prof s).primary.getLsbD c = false ∧ (prof s).fallback.getLsbD c = false)) →
        exec (.decisionPointReached id) s = .next base)
      ∧ ((∀ r ∈ s.claim.ownClaims, r.id ∉ idsOf t) → d = .decided c m s.engine.mode →
        ((prof s).primary.getLsbD c = true ∨ (prof s).fallback.getLsbD c = true) →
        (((t.cluster = true ∧ (prof s).clusterPolicy = .skip) ∨ s.accept.overrun = true ∨ s.link.state ≠ .active
            ∨ s.port.station = .halting) →
          exec (.decisionPointReached id) s = .next { base with claim.withheld := bump s.claim.withheld })
        ∧ (s.link.state = .active → s.port.station = .running → s.accept.overrun = false →
          (t.cluster = false ∨ (prof s).clusterPolicy = .eject) →
          (t.owner ≠ none
            ∨ (prof s).primary.getLsbD c = false ∧ s.members.adopted.getLsbD c = false ∧ t.releasedBy = []) →
          exec (.decisionPointReached id) s = .next base))
      ∧ (eligible → s.air.supply = .standby →
        ∃ u, exec (.decisionPointReached id) s = .next u
          ∧ u.air.supply = (if s.air.pressureOk then .ready else .charging)
          ∧ (s.air.pressureOk = false → u.air.chargeTimer = some (s.clock + 20 * (prof s).chargeTime)))
      ∧ (eligible → s.air.supply ≠ .standby → s.port.outcomes.length < 32 →
        ∀ why : NotFired,
          (why = .slow ∧ s.belt.motion ≠ .running
            ∨ s.belt.motion = .running
              ∧ (why = .late ∧ reached s w.openCount = true
                ∨ reached s w.openCount = false
                  ∧ (why = .noValve ∧ vs = 0
                    ∨ vs ≠ 0 ∧ (why = .supply ∧ ¬ feasible ∨ feasible ∧ why = .plenum ∧ 48 ≤ s.sched.entries.length)))) →
          exec (.decisionPointReached id) s
            = .next
                { base with
                  port.outcomes :=
                    s.port.outcomes
                      ++ [{ id := t.primary
                            cls := c
                            mode := s.engine.mode
                            decisionMode := s.engine.mode
                            result := .notFired why
                            trimmed := false
                            clamped := false
                            cut := false
                            weak := false
                            lateEvidence := false
                            valveCount := valveCount vs
                            openCount := w.openCount
                            margin := m }] })
      ∧ (eligible → feasible → s.belt.motion = .running → reached s w.openCount = false → vs ≠ 0 →
        s.sched.entries.length < 48 → peakLoad s.sched.entries w vs ≤ (prof s).plenumLimit →
        s.link.slots.length < 8 → reached s (w.openCount - BitVec.ofNat 32 (prof s).claimLead) = false →
        exec (.decisionPointReached id) s
          = .next
              { base with
                engine.tracks :=
                  s.engine.tracks.map fun u =>
                    if u.key = t.key then { u with pointMet := true, decision := d, own := .pending } else u
                sched.lastPeak := peakLoad s.sched.entries w vs
                sched.admitted := bump s.sched.admitted
                sched.entries :=
                  insertBefore (fun y => 0 < (y.openCount - w.openCount).toInt)
                    { track := t.key
                      cls := c
                      priority := (prof s).priority[c]
                      state := .reserved
                      openCount := w.openCount
                      closeCount := w.closeCount
                      pMin := w.pMin
                      pMax := w.pMax
                      valves := vs
                      drive := 0
                      trimmed := false
                      clamped := w.clamped
                      cut := false
                      weak := false
                      guard := none } s.sched.entries
                air.standbyTimer := if s.sched.entries = [] then none else s.air.standbyTimer
                air.standbyDue :=
                  if s.sched.entries = [] then
                    match s.air.standbyTimer with
                    | none => none
                    | some t0 => if t0 ≤ s.clock then some s.clock else none
                  else s.air.standbyDue
                link.nextHandle := s.link.nextHandle + 1
                link.slots :=
                  s.link.slots
                    ++ [{ handle := s.link.nextHandle
                          status := .pending
                          notice := .claim t.primary c
                          deadline := some (w.openCount - BitVec.ofNat 32 (prof s).claimLead)
                          deadlineMet := false
                          failedAttempts := 0
                          latch := none }]
                claim.ownClaims :=
                  s.claim.ownClaims
                    ++ [{ id := t.primary
                          cls := c
                          handle := s.link.nextHandle
                          outcomeTaken := false
                          met := false
                          metFirst := false
                          giveUp := none
                          orphan := false }] }))
    ∧ ∀ older r newer x e, t.pointMet = false → t.own = .pending → s.claim.ownClaims = older ++ r :: newer →
      (∀ y ∈ older, y.id ∉ idsOf t) → r.id ∈ idsOf t →
      ((∃ k g, d = .decided r.cls k g) → exec (.decisionPointReached id) s = .next base)
      ∧ ((∀ k g, d ≠ .decided r.cls k g) → (∀ y ∈ older ++ newer, y.handle ≠ r.handle) → t.heldRetirement = false →
        s.sched.entries.find? (fun y => y.track = t.key) = some e → e.state = .reserved →
        s.port.outcomes.length < 32 → s.link.slots.find? (fun y => y.handle = r.handle) = some x →
        (x.status = .sending →
          ∃ u rec, exec (.decisionPointReached id) s = .next u ∧ dropped u rec
            ∧ u.claim = { s.claim with ownClaims := older ++ { r with giveUp := some .reclassed } :: newer }
            ∧ u.link
              = { s.link with
                  slots :=
                    s.link.slots.map fun y => if y.handle = r.handle then { y with status := .cancelPending } else y })
        ∧ (∀ i k, x.status = .pending → x.notice = .claim i k → d = .undecided s.engine.mode →
          ∃ u rec, exec (.decisionPointReached id) s = .next u ∧ dropped u rec
            ∧ u.claim = { s.claim with ownClaims := older ++ newer }
            ∧ u.link = { s.link with slots := s.link.slots.filter fun y => y.handle ≠ r.handle }))

/-- R32: every step keeps the table at 128 tracks at most, no two live tracks sharing an ID as primary or alias, and the
model's own names for the records distinct and the next one unused. It keeps the table in ascending order of D as well,
wherever the Ds before and after lie near one count, so that their order is well defined. The model's choices it rests on:
assumption log 5. -/
def Obligations.TrackTableLawsHoldAfterEveryStep : Prop :=
  KeptByEveryStep TableLawful
    ∧ ∀ (s t : State) (c : Count), TableLawful s → InTableOrder s → DsNear c s → step s = .next t → DsNear c t →
      InTableOrder t

/-! ### What the firing scheduler computes (chapter 9) -/

/-- R153: with a minimum on-time and a speed in their ranges, the window's pulse is at least Pmin, at most Pmax where Pmax
is no less than Pmin, and exactly Pmin where it is less; CLAMPED is set only where the pulse before was longer. -/
def Obligations.PulseStaysWithinItsBounds : Prop :=
  ∀ (p : Profile) (speed : Nat) (d : Count) (length : Nat) (c : ClassCode),
    p.minOnTime ≤ 100 → p.maxOnTime ≤ 2000 → speed ≤ 4095 →
    (windowOf p speed d length c).pMin = (p.minOnTime * speed + 159) / 160
    ∧ (windowOf p speed d length c).pMax = p.maxOnTime * speed / 160
    ∧ (windowOf p speed d length c).openCount
      = d + BitVec.ofNat 32 p.barOffset - BitVec.ofNat 32 p.marginFront[c]
          - BitVec.ofNat 32 ((p.openLatency * speed + 159) / 160)
    ∧ ((p.minOnTime * speed + 159) / 160 : Nat)
      ≤ ((windowOf p speed d length c).closeCount - (windowOf p speed d length c).openCount).toInt
    ∧ ((p.minOnTime * speed + 159) / 160 ≤ p.maxOnTime * speed / 160 →
      ((windowOf p speed d length c).closeCount - (windowOf p speed d length c).openCount).toInt
        ≤ (p.maxOnTime * speed / 160 : Nat))
    ∧ (p.maxOnTime * speed / 160 < (p.minOnTime * speed + 159) / 160 →
      ((windowOf p speed d length c).closeCount - (windowOf p speed d length c).openCount).toInt
        = ((p.minOnTime * speed + 159) / 160 : Nat))
    ∧ ((windowOf p speed d length c).clamped = true →
      ((windowOf p speed d length c).closeCount - (windowOf p speed d length c).openCount).toInt
        < (d + BitVec.ofNat 32 p.barOffset + BitVec.ofNat 32 length + BitVec.ofNat 32 p.marginRear[c]
            - BitVec.ofNat 32 (p.closeLatency * speed / 160) - (windowOf p speed d length c).openCount).toInt)

/-- R155, R170: in a lawful map every valve of a valve set is ACTIVE, a covered valve having given way to its cover. -/
def Obligations.ValveSetsHoldActiveValves : Prop :=
  ∀ (m : ValveMap) (margin laneLo laneHi : Nat), mapLaw m.valve = true →
    ∀ v : Fin 64, (valveSetOf m margin laneLo laneHi).getLsbD v = true → m.valve[v].descriptor = .active

/-- R157, R158, R163: after a request that is admitted, the peak load of the last admission is within the plenum limit N;
every step keeps the load at every count within N; and so, while each OPEN entry's window holds the present count, no more
than N valves are driven. -/
def Obligations.LoadStaysWithinThePlenumLimit : Prop :=
  (∀ (s t : State) (u : Track) (c : ClassCode) (openCount : Count),
    requestEntry u c s = (t, .admitted openCount) → t.sched.lastPeak ≤ (prof s).plenumLimit)
  ∧ KeptByEveryStep PlenumLawful
  ∧ ∀ s t : State, PlenumLawful s → step s = .next t →
    (∀ e ∈ t.sched.entries, e.state = .opened →
      0 ≤ (t.belt.count - e.openCount).toInt ∧ (t.belt.count - e.closeCount).toInt < 0) →
    valveCount (driveOf t) ≤ (prof t).plenumLimit

/-! ### The line bus controller and the acceptance unit (chapters 5 and 6) -/

/-- R11, R77, R85: a recessive run that reaches base plus one lowers a class's raised count to its base. A dominant bit
after a run of 10 or more latches the belt count and begins a frame; the edge of this station's own start bit latches for
the slot that sends. OFFLINE, nothing is latched. The model's choices it rests on: assumption log 9, 10. -/
def Obligations.StartOfFrameLatchesTheBeltCount : Prop :=
  ∀ (s : State) (run : Nat), 10 ≤ run →
    (s.link.state = .offline → exec (.startOfFrame run) s = .next s)
    ∧ (∀ r, s.link.state ≠ .offline → s.link.frame = .idle → s.link.run = some r → r ≤ run →
      exec (.requiredCountLowered run) s
        = .next
            { s with
              link.run := some run
              link.requiredUrgent := if 13 ≤ run then 12 else s.link.requiredUrgent
              link.requiredNormal := if 15 ≤ run then 14 else s.link.requiredNormal
              link.requiredRoutine := if 17 ≤ run then 16 else s.link.requiredRoutine }
      ∧ exec (.startOfFrame run) s
        = .next
            { s with
              belt.frameLatch := s.belt.count
              link.run := some 0
              link.frame := .receiving
              link.requiredUrgent := if 13 ≤ run then 12 else s.link.requiredUrgent
              link.requiredNormal := if 15 ≤ run then 14 else s.link.requiredNormal
              link.requiredRoutine := if 17 ≤ run then 16 else s.link.requiredRoutine })
    ∧ ∀ x, s.link.state ≠ .offline → s.link.frame = .starting →
      s.link.slots.find? (fun y => y.status ≠ .pending) = some x →
      exec (.startOfFrame run) s
        = .next
            { s with
              belt.frameLatch := s.belt.count
              link.frame := .sending
              link.slots :=
                s.link.slots.map fun y => if y.handle = x.handle then { y with latch := some s.belt.count } else y
              link.txFrame := frameBytes (prof s).node (fillNotice (prof s).datum s.belt.count x.notice) }

/-- R84, R86: at the end of a bit time on an ACTIVE idle line the slot chosen among the eligible ones is the one of lowest
access class, and in it the oldest; it becomes SENDING and its start bit latches the belt count. With no slot eligible
nothing starts, and a link that is not ACTIVE starts nothing. The model's choices it rests on: assumption log 9, 10. -/
def Obligations.QuietLineStartsTheFirstEligibleSlot : Prop :=
  ∀ (s : State) (run r : Nat) (u : State), s.link.frame = .idle → s.link.run = some r → r ≤ run →
    u = { s with
          link.run := some run
          link.requiredUrgent := if 13 ≤ run then 12 else s.link.requiredUrgent
          link.requiredNormal := if 15 ≤ run then 14 else s.link.requiredNormal
          link.requiredRoutine := if 17 ≤ run then 16 else s.link.requiredRoutine } →
    (s.link.state ≠ .active → exec (.slotStart run) s = .next s)
    ∧ (s.link.state = .active →
      (∀ y ∈ s.link.slots, y.status ≠ .pending ∨ run < requiredOf (noticeClass y.notice) u) →
      exec (.slotStart run) s = .next u)
    ∧ ∀ older x newer, s.link.state = .active → s.link.slots = older ++ x :: newer →
      x.status = .pending → requiredOf (noticeClass x.notice) u ≤ run →
      (∀ y ∈ older, y.status = .pending → requiredOf (noticeClass y.notice) u ≤ run →
        classCode (noticeClass x.notice) < classCode (noticeClass y.notice)) →
      (∀ y ∈ newer, y.status = .pending → requiredOf (noticeClass y.notice) u ≤ run →
        classCode (noticeClass x.notice) ≤ classCode (noticeClass y.notice)) →
      exec (.slotStart run) s
        = .next
            { u with
              belt.frameLatch := s.belt.count
              link.run := some 0
              link.frame := .starting
              link.slots :=
                s.link.slots.map fun y =>
                  if y.handle = x.handle then { y with status := .sending, latch := some s.belt.count } else y
              link.txFrame := frameBytes (prof s).node (fillNotice (prof s).datum s.belt.count x.notice) }

/-- R87, R94, R95: a station that loses arbitration becomes a receiver of the frame, and its slot is PENDING again. A
heartbeat whose cancel waits ends CANCELLED and is counted skipped; a FIRED whose deadline was reached ends STALE and is
counted unsent. -/
def Obligations.LostArbitrationReturnsTheSlot : Prop :=
  ∀ (s : State) (x : Slot), BarInStep s → (s.link.frame = .starting ∨ s.link.frame = .sending) →
    s.link.slots.find? (fun y => y.status ≠ .pending) = some x →
    (x.status = .sending → x.deadlineMet = false → (∀ d, x.deadline = some d → reached s d = false) →
      exec .arbitrationLost s
        = .next
            { s with
              link.frame := .receiving
              link.txFrame := []
              link.slots := s.link.slots.map fun y => if y.handle = x.handle then { y with status := .pending } else y })
    ∧ (∀ h, x.status = .cancelPending → x.notice = .heartbeat h →
      exec .arbitrationLost s
        = .next
            { s with
              link.frame := .receiving
              link.txFrame := []
              link.slots := s.link.slots.filter fun y => y.handle ≠ x.handle
              members.skipped := bump s.members.skipped })
    ∧ ∀ c i, x.status = .sending → x.notice = .fired c i → x.deadlineMet = true →
      exec .arbitrationLost s
        = .next
            { s with
              link.frame := .receiving
              link.txFrame := []
              link.slots := s.link.slots.filter fun y => y.handle ≠ x.handle
              claim.unsent := bump s.claim.unsent }

/-- R88, R91: a bit error abandons the attempt and counts against the slot and the station. The slot is PENDING again, or
FAILED at its third; at the sixteenth consecutive failure the link falls SILENT(FAILURES), is flagged, and holds no PENDING
slot. -/
def Obligations.BitErrorsFailTheSlotAndSilenceTheLink : Prop :=
  ∀ (s : State) (x : Slot), BarInStep s → (s.link.frame = .starting ∨ s.link.frame = .sending) →
    s.link.slots.find? (fun y => y.status ≠ .pending) = some x →
    (x.status = .sending → x.failedAttempts < 2 → x.deadlineMet = false →
      (∀ d, x.deadline = some d → reached s d = false) → s.link.consecutiveFailures < 15 →
      exec .bitError s
        = .next
            { s with
              link.frame := .receivingAbandoned
              link.txFrame := []
              link.consecutiveFailures := s.link.consecutiveFailures + 1
              link.slots :=
                s.link.slots.map fun y =>
                  if y.handle = x.handle then { y with status := .pending, failedAttempts := x.failedAttempts + 1 } else y })
    ∧ (∀ id ch res, x.status = .sending → x.notice = .confirm id ch res → 2 ≤ x.failedAttempts →
      s.link.consecutiveFailures < 15 →
      exec .bitError s
        = .next
            { s with
              link.frame := .receivingAbandoned
              link.txFrame := []
              link.consecutiveFailures := s.link.consecutiveFailures + 1
              link.slots := s.link.slots.filter fun y => y.handle ≠ x.handle
              chute.confirmUnsent := bump s.chute.confirmUnsent })
    ∧ (15 ≤ s.link.consecutiveFailures →
      ∃ t, exec .bitError s = .next t ∧ t.link.state = .silent .failures ∧ t.link.listeningTimer = none
        ∧ t.members.heartbeatTimer = none ∧ t.port.flags.getLsbD 6 = true
        ∧ t.link.consecutiveFailures = s.link.consecutiveFailures + 1
        ∧ (∀ y ∈ t.link.slots, y.status ≠ .pending) ∧ t.belt = s.belt ∧ t.accept = s.accept)

/-- R51, R85, R89, R96, R97, R100, R101, R107, R110 to R112, R135: a completed frame clears the consecutive failures, raises
its class's required count and frees its slot. A HEARTBEAT goes no further; a PIECE, its UNANNOUNCED cleared, a CONFIRM, a
RELEASE, a FIRED and a CLAIM, its outcome taken, join their queues marked OWN with the figure of their latch. At a full
general queue the frame is counted dropped; at a full urgent queue URGENT_OVERRUN is set and the claim unit keeps a drop
notice, if it has room. The model's choices it rests on: assumption log 10, 21. -/
def Obligations.SuccessfulSendsAreHandedBack : Prop :=
  ∀ (s u : State) (x : Slot) (latch : Count), BarInStep s → (s.link.frame = .starting ∨ s.link.frame = .sending) →
    s.link.slots.find? (fun y => y.status ≠ .pending) = some x → x.latch = some latch →
    u
      = { s with
          link.frame := .idle
          link.txFrame := []
          link.run := some (runAfter s.link.txFrame)
          link.consecutiveFailures := 0
          link.slots := s.link.slots.filter fun y => y.handle ≠ x.handle } →
    (∀ h, x.notice = .heartbeat h → exec .sendSuccess s = .next { u with link.requiredRoutine := 17 })
    ∧ (∀ (w : Wire) (tracks : List Track),
      ((∃ id ch res, x.notice = .confirm id ch res ∧ w = .confirm id ch res ∧ tracks = s.engine.tracks)
        ∨ ∃ d i, x.notice = .piece d i
          ∧ w = .piece (BitVec.ofInt 24 (max 0 (min 16777215 ((prof s).datum.toNat + (latch - d).toInt)))) i
          ∧ tracks
            = match trackOf i.id s with
              | none => s.engine.tracks
              | some t => s.engine.tracks.map fun v => if v.key = t.key then { v with unannounced := false } else v) →
      (s.accept.general.length < 24 →
        exec .sendSuccess s
          = .next
              { u with
                link.requiredNormal := 15
                accept.general := s.accept.general ++ [⟨w, (prof s).node, latch, true⟩]
                engine :=
                  if s.accept.general.length + 1 = (prof s).generalHigh then
                    { s.engine with tracks := tracks, mode := .quick, returnCounter := 0 }
                  else { s.engine with tracks := tracks } })
      ∧ (24 ≤ s.accept.general.length →
        exec .sendSuccess s
          = .next
              { u with
                link.requiredNormal := 15
                engine.tracks := tracks
                accept.generalDrop := bump s.accept.generalDrop }))
    ∧ ∀ (w : Wire) (kind : UrgentKind) (id : PieceId) (records : List OwnClaim),
      ((∃ why, x.notice = .release id why ∧ w = .release id why ∧ kind = .release ∧ records = s.claim.ownClaims)
        ∨ (∃ d i, x.notice = .fired d i ∧ w = .fired (BitVec.ofInt 16 (max 0 (min 65535 ((latch - d).toInt)))) i
          ∧ i.id = id ∧ kind = .fired ∧ records = s.claim.ownClaims)
        ∨ ∃ c r, x.notice = .claim id c ∧ w = .claim id c ∧ kind = .claim
          ∧ s.claim.ownClaims.find? (fun y => y.handle = x.handle) = some r ∧ r.met = false
          ∧ records = s.claim.ownClaims.map fun y => if y.handle = x.handle then { y with outcomeTaken := true } else y) →
      (s.accept.urgent.length < 8 →
        exec .sendSuccess s
          = .next
              { u with
                link.requiredUrgent := 13
                claim.ownClaims := records
                accept.urgent := s.accept.urgent ++ [⟨w, (prof s).node, latch, true⟩] })
      ∧ (8 ≤ s.accept.urgent.length → s.claim.dropNotices.length < 16 →
        exec .sendSuccess s
          = .next
              { u with
                link.requiredUrgent := 13
                accept.overrun := true
                accept.urgentDrop := bump s.accept.urgentDrop
                accept.ownDrop := bump s.accept.ownDrop
                claim.ownClaims := records
                claim.dropNotices := s.claim.dropNotices ++ [⟨kind, id, latch, s.accept.urgent.length⟩] })
      ∧ (8 ≤ s.accept.urgent.length → 16 ≤ s.claim.dropNotices.length → kind ≠ .claim →
        exec .sendSuccess s
          = .next
              { u with
                link.requiredUrgent := 13
                accept.overrun := true
                accept.urgentDrop := bump s.accept.urgentDrop
                accept.ownDrop := bump s.accept.ownDrop })
      ∧ (∀ r, 8 ≤ s.accept.urgent.length → 16 ≤ s.claim.dropNotices.length → kind = .claim →
        s.claim.ownClaims = [r] → r.id = id → r.giveUp = none → trackOf id s = none →
        exec .sendSuccess s
          = .next
              { u with
                link.requiredUrgent := 13
                accept.overrun := true
                accept.urgentDrop := bump s.accept.urgentDrop
                accept.ownDrop := bump s.accept.ownDrop
                claim.ownClaims := [] })

/-- R80, R106, R107, R110, R111, R113: a good frame of known kind from another node, its notice fitting its kind, is judged
by the first enabled entry that matches. DROP counts it; ACCEPT, and no match, put it in its queue with the frame latch;
ACCEPT_WATCH does so and flags it. At a full general queue it is counted dropped, and at a full urgent queue URGENT_OVERRUN
is set too. The model's choices it rests on: assumption log 10, 11, 12. -/
def Obligations.ReceivedNoticesAreJudgedAndQueued : Prop :=
  ∀ (s queued : State) (bytes : List Byte) (w : Wire) (i : State → State), BarInStep s → s.link.state ≠ .offline →
    s.link.frame = .receiving → frameGood bytes = true →
    (headerOf bytes).origin ≠ (prof s).node → (1 ≤ (headerOf bytes).kind ∧ (headerOf bytes).kind ≤ 6) →
    wireOf (headerOf bytes).cls (headerOf bytes).kind ((bytes.drop 2).take (headerOf bytes).length) = some w →
    (∀ h, w ≠ .heartbeat h) →
    (i = fun a => { a with link.frame := .idle, link.txFrame := [], link.run := some (runAfter bytes) }) →
    (wireClass w = .urgent ∧ s.accept.urgent.length < 8
        ∧ queued
          = { s with
              accept.urgent := s.accept.urgent ++ [⟨w, (headerOf bytes).origin, s.belt.frameLatch, false⟩] }
      ∨ wireClass w = .urgent ∧ 8 ≤ s.accept.urgent.length
        ∧ queued = { s with accept.urgentDrop := bump s.accept.urgentDrop, accept.overrun := true }
      ∨ wireClass w = .normal ∧ s.accept.general.length < 24
        ∧ queued
          = { s with
              accept.general := s.accept.general ++ [⟨w, (headerOf bytes).origin, s.belt.frameLatch, false⟩]
              accept.quickNotice :=
                match w with
                | .piece _ info => if info.mode = .quick then bump s.accept.quickNotice else s.accept.quickNotice
                | _ => s.accept.quickNotice
              engine :=
                if s.accept.general.length + 1 = (prof s).generalHigh then
                  { s.engine with mode := .quick, returnCounter := 0 }
                else s.engine }
      ∨ wireClass w = .normal ∧ 24 ≤ s.accept.general.length
        ∧ queued = { s with accept.generalDrop := bump s.accept.generalDrop }) →
    ((∀ y ∈ (prof s).acceptance, entryMatches (headerOf bytes).origin w y = false) →
      exec (.frameReceived bytes) s = .next (i queued))
    ∧ ∀ before e after, (prof s).acceptance = before ++ e :: after →
      (∀ y ∈ before, entryMatches (headerOf bytes).origin w y = false) → entryMatches (headerOf bytes).origin w e = true →
      (e.action = .drop →
        exec (.frameReceived bytes) s = .next (i { s with accept.listDrop := bump s.accept.listDrop }))
      ∧ (e.action = .accept → exec (.frameReceived bytes) s = .next (i queued))
      ∧ (e.action = .acceptWatch → exec (.frameReceived bytes) s = .next (i (raiseFlag .watch queued)))

/-- R81, R82, R103: a discarded frame and a frame that fails its check are counted as receive errors, but for one this
station had abandoned; a good frame of unknown kind is counted there alone; a body that does not fit its kind is counted
malformed. The model's choices it rests on: assumption log 10, 11, 12. -/
def Obligations.RejectedFramesAreCounted : Prop :=
  ∀ (s : State) (bytes : List Byte) (cause : DiscardCause) (run : Nat), BarInStep s → s.link.state ≠ .offline →
    (s.link.frame = .receiving →
      exec (.frameDiscarded cause run) s
        = .next
            { s with
              link.frame := .idle
              link.txFrame := []
              link.run := some run
              link.receiveErrors := bump s.link.receiveErrors })
    ∧ (s.link.frame = .receivingAbandoned →
      exec (.frameDiscarded cause run) s
        = .next { s with link.frame := .idle, link.txFrame := [], link.run := some run })
    ∧ (s.link.frame = .receiving → frameGood bytes = false →
      exec (.frameReceived bytes) s
        = .next
            { s with
              link.frame := .idle
              link.txFrame := []
              link.run := some (runAfter bytes)
              link.receiveErrors := bump s.link.receiveErrors })
    ∧ (s.link.frame = .receiving → frameGood bytes = true →
      ((headerOf bytes).kind = 0 ∨ 7 ≤ (headerOf bytes).kind) →
      exec (.frameReceived bytes) s
        = .next
            { s with
              link.frame := .idle
              link.txFrame := []
              link.run := some (runAfter bytes)
              link.unknownKind := bump s.link.unknownKind })
    ∧ (s.link.frame = .receiving → frameGood bytes = true →
      (1 ≤ (headerOf bytes).kind ∧ (headerOf bytes).kind ≤ 6) → (headerOf bytes).origin ≠ (prof s).node →
      wireOf (headerOf bytes).cls (headerOf bytes).kind ((bytes.drop 2).take (headerOf bytes).length) = none →
      exec (.frameReceived bytes) s
        = .next
            { s with
              link.frame := .idle
              link.txFrame := []
              link.run := some (runAfter bytes)
              accept.malformedNotice := bump s.accept.malformedNotice })

/-- R83, R91: a received frame of known kind under this station's own node is counted; a LISTENING or ACTIVE link falls
SILENT(DUPLICATE), flagged and with no PENDING slot, and a SILENT one keeps its cause. The model's choices it rests on:
assumption log 12. -/
def Obligations.DuplicatesSilenceTheLink : Prop :=
  ∀ (s : State) (bytes : List Byte), (s.link.frame = .receiving ∨ s.link.frame = .receivingAbandoned) →
    frameGood bytes = true → (1 ≤ (headerOf bytes).kind ∧ (headerOf bytes).kind ≤ 6) →
    (headerOf bytes).origin = (prof s).node →
    ((s.link.state = .listening ∨ s.link.state = .active) →
      ∃ t, exec (.frameReceived bytes) s = .next t ∧ t.link.state = .silent .duplicate
        ∧ t.link.listeningTimer = none ∧ t.members.heartbeatTimer = none ∧ t.port.flags.getLsbD 6 = true
        ∧ t.link.duplicates = bump s.link.duplicates ∧ (∀ y ∈ t.link.slots, y.status ≠ .pending)
        ∧ t.members.peers = s.members.peers)
    ∧ ∀ cause, s.link.state = .silent cause →
      ∃ t, exec (.frameReceived bytes) s = .next t ∧ t.link.state = .silent cause
        ∧ t.link.duplicates = bump s.link.duplicates ∧ t.members.peers = s.members.peers

/-- R90, R102, R115, R116: at the end of LISTENING the link is ACTIVE and the first heartbeat is built and added, and the
timer starts for one period; at each expiry a heartbeat still PENDING is cancelled, the next one added and the timer
restarted from the moment of the expiry. An expiry that finds every slot held is a skipped heartbeat. The model's choices it
rests on: assumption log 2, 5. -/
def Obligations.HeartbeatsFallDueAtTheirPeriod : Prop :=
  ∀ (s : State) (t0 : Nat) (beat : Slot), BarInStep s →
    beat
      = { handle := s.link.nextHandle
          status := .pending
          notice :=
            .heartbeat
              { sense := (prof s).sense
                eject := (prof s).eject
                check := (prof s).check
                period := BitVec.ofNat 8 (prof s).heartbeatPeriod
                datum := (prof s).datum
                speed := BitVec.ofNat 12 s.belt.speed
                primary := (prof s).primary
                fallback := (prof s).fallback
                mode := s.engine.mode
                overrun := s.accept.overrun
                trackFull := s.engine.tableFull
                supply := s.air.supply }
          deadline := none
          deadlineMet := false
          failedAttempts := 0
          latch := none } →
    (s.link.state = .listening → s.link.listeningTimer = some t0 → s.link.slots.length < 8 →
      exec .listeningTimerEnd s
        = .next
            { s with
              clock := max s.clock t0
              link.state := .active
              link.listeningTimer := none
              link.slots := s.link.slots ++ [beat]
              link.nextHandle := s.link.nextHandle + 1
              members.heartbeatTimer := some (t0 + 10 * (prof s).heartbeatPeriod)
              members.heartbeatHandle := some s.link.nextHandle })
    ∧ (s.link.state = .active → s.members.heartbeatTimer = some t0 → s.link.slots.length < 8 →
      (∀ h, s.members.heartbeatHandle = some h → ∀ x ∈ s.link.slots, x.handle ≠ h) →
      exec .heartbeatTimerExpiry s
        = .next
            { s with
              clock := max s.clock t0
              link.slots := s.link.slots ++ [beat]
              link.nextHandle := s.link.nextHandle + 1
              members.heartbeatTimer := some (t0 + 10 * (prof s).heartbeatPeriod)
              members.heartbeatHandle := some s.link.nextHandle })
    ∧ (∀ h x b, s.link.state = .active → s.members.heartbeatTimer = some t0 → s.link.slots.length ≤ 8 →
      s.members.heartbeatHandle = some h → s.link.slots.find? (fun y => y.handle = h) = some x →
      x.status = .pending → x.notice = .heartbeat b →
      exec .heartbeatTimerExpiry s
        = .next
            { s with
              clock := max s.clock t0
              link.slots := s.link.slots.filter (fun y => y.handle ≠ x.handle) ++ [beat]
              link.nextHandle := s.link.nextHandle + 1
              members.heartbeatTimer := some (t0 + 10 * (prof s).heartbeatPeriod)
              members.heartbeatHandle := some s.link.nextHandle
              members.skipped := bump s.members.skipped })
    ∧ (s.link.state = .active → s.members.heartbeatTimer = some t0 → 8 ≤ s.link.slots.length →
      (∀ h, s.members.heartbeatHandle = some h → ∀ x ∈ s.link.slots, x.handle ≠ h) →
      exec .heartbeatTimerExpiry s
        = .next
            { s with
              clock := max s.clock t0
              members.heartbeatTimer := some (t0 + 10 * (prof s).heartbeatPeriod)
              members.skipped := bump s.members.skipped })

/-- R94, R145: a slot whose deadline is reached while PENDING ends STALE, its requester told; while it sends, only the mark
is set. A deadline still ahead, and a slot without one, stay as they are. The model's choices it rests on: assumption log 3,
11. -/
def Obligations.ReachedDeadlinesMakePendingSlotsStale : Prop :=
  ∀ (s : State) (place : Fin 8) (x : Slot), BarInStep s → s.link.slots[place.val]? = some x →
    (∀ d c i, x.deadline = some d → reached s d = true → x.status = .pending → x.notice = .fired c i →
      exec (.slotDeadlineStale place) s
        = .next
            { s with
              link.slots := s.link.slots.filter fun y => y.handle ≠ x.handle
              claim.unsent := bump s.claim.unsent })
    ∧ (∀ d c i, x.deadline = some d → reached s d = true → x.status = .pending → x.notice = .piece c i →
      exec (.slotDeadlineStale place) s
        = .next
            { s with
              link.slots := s.link.slots.filter fun y => y.handle ≠ x.handle
              engine.tracks :=
                match trackOf i.id s with
                | none => s.engine.tracks
                | some t => s.engine.tracks.map fun u => if u.key = t.key then { u with unannounced := true } else u })
    ∧ (∀ d, x.deadline = some d → reached s d = true → x.status ≠ .pending →
      exec (.slotDeadlineStale place) s
        = .next
            { s with
              link.slots := s.link.slots.map fun y => if y.handle = x.handle then { y with deadlineMet := true } else y })
    ∧ ((∀ d, x.deadline = some d → reached s d = false) → exec (.slotDeadlineStale place) s = .next s)

/-- Every step keeps this: a station drives a frame only while its link is ACTIVE (R84). -/
def Obligations.OnlyAnActiveLinkDrives : Prop := KeptByEveryStep DrivesWhenActive

/-- R78, R79, R99, R103: a notice within the ranges of its layout, sent by any node, passes every check of a receiver and is
read back with every field as it was. The model's choices it rests on: assumption log 23. -/
def Obligations.EveryNoticeSurvivesTheLine : Prop :=
  ∀ (origin : Node) (w : Wire), WireFits w →
    frameGood (frameBytes origin w) = true
    ∧ (headerOf (frameBytes origin w)).origin = origin
    ∧ (headerOf (frameBytes origin w)).cls = classCode (wireClass w)
    ∧ (headerOf (frameBytes origin w)).kind = wireKind w
    ∧ wireOf (headerOf (frameBytes origin w)).cls (headerOf (frameBytes origin w)).kind
        (((frameBytes origin w).drop 2).take (headerOf (frameBytes origin w)).length)
      = some w

/-! ### The membership unit (chapter 7) -/

/-- R118, R119, R120, R122: a heartbeat of another node that comes in time is recorded in its slot: the content whole, the
arrival time, a deadline 1.5 periods on and no missed periods, and the state moves as R119 has it, a change into PRESENT or
out of LOST flagged. One that comes after the slot's deadline finds the slot as the missed deadlines have left it: a JOINING
peer begins again, a PRESENT one comes back from its doubt, or, LOST by then, begins again. Every other slot stays. The
model's choices it rests on: assumption log 36. -/
def Obligations.HeartbeatsMoveThePeerSlot : Prop :=
  ∀ (s : State) (bytes : List Byte) (n : Node) (h : Heartbeat) (p : Peer) (heard : PeerState → Vector Peer 16),
    s.link.state ≠ .offline → s.link.frame = .receiving →
    frameGood bytes = true → (headerOf bytes).origin = n → n ≠ (prof s).node → (headerOf bytes).kind = 1 →
    wireOf (headerOf bytes).cls 1 ((bytes.drop 2).take (headerOf bytes).length) = some (.heartbeat h) →
    s.members.peers[n] = p →
    (heard = fun state =>
      s.members.peers.set n
        { state := state
          content := some h
          arrival := some s.clock
          deadline := some (s.clock + 15 * h.period.toNat)
          missed := 0 }) →
    ∃ t, exec (.frameReceived bytes) s = .next t
      ∧ ((∀ d, p.deadline = some d → s.clock ≤ d) →
        t.members.peers
          = heard
              (match p.state with
              | .absent => .joining1
              | .lost => .joining1
              | .joining1 => .joining2
              | .joining2 => .present
              | .present => .present
              | .doubtful1 => .present
              | .doubtful2 => .present)
        ∧ ((p.state = .joining2 ∨ p.state = .doubtful1 ∨ p.state = .doubtful2 ∨ p.state = .lost) →
            t.port.flags.getLsbD 2 = true)
        ∧ ((p.state = .absent ∨ p.state = .joining1 ∨ p.state = .present) → t.port = s.port)
        ∧ (p.state = .joining2 →
            t.members.expected = expectedOf t.members.peers ∧ t.members.adopted = adoptedOf (prof s).fallback t.members.peers))
      ∧ (∀ d, p.deadline = some d → d < s.clock → (p.state = .joining1 ∨ p.state = .joining2) →
        t.members.peers = heard .joining1 ∧ t.port = s.port)
      ∧ (∀ d old, p.deadline = some d → p.state = .present → p.content = some old → d < s.clock →
        (s.clock ≤ d + 20 * old.period.toNat → t.members.peers = heard .present ∧ t.port.flags.getLsbD 2 = true)
        ∧ (d + 20 * old.period.toNat < s.clock →
          t.members.peers = heard .joining1 ∧ t.port.flags.getLsbD 2 = true
            ∧ t.members.expected = expectedOf t.members.peers
            ∧ t.members.adopted = adoptedOf (prof s).fallback t.members.peers))
      ∧ t.link = { s.link with frame := .idle, txFrame := [], run := some (runAfter bytes) }
      ∧ t.engine = s.engine ∧ t.accept = s.accept ∧ t.belt = s.belt

/-- R120, R122: at its supervision deadline a slot takes one step of the table: a JOINING peer is ABSENT, a PRESENT one is
doubted, a doubted one doubted again and then LOST, with the missed count and next deadline of each row; the step into LOST
recomputes the derived sets. A slot without a deadline takes no step. -/
def Obligations.SupervisionStepsAMissedPeer : Prop :=
  ∀ (s : State) (n : Node) (t0 : Nat) (p : Peer), s.link.state ≠ .offline → s.members.peers[n] = p →
    (p.deadline = none → exec (.supervisionDeadline n) s = .next s)
    ∧ (p.deadline = some t0 → (p.state = .joining1 ∨ p.state = .joining2) →
      ∃ t, exec (.supervisionDeadline n) s = .next t
        ∧ t
          = { s with
              clock := t.clock
              members.peers := s.members.peers.set n { p with state := .absent, missed := 1, deadline := none } })
    ∧ (∀ h, p.deadline = some t0 → p.state = .present → p.content = some h →
      ∃ t, exec (.supervisionDeadline n) s = .next t
        ∧ t
          = raiseFlag .peerChange
              { s with
                clock := t.clock
                members.peers :=
                  s.members.peers.set n
                    { p with state := .doubtful1, missed := 1, deadline := some (t0 + 10 * h.period.toNat) } })
    ∧ (∀ h, p.deadline = some t0 → p.state = .doubtful1 → p.content = some h →
      ∃ t, exec (.supervisionDeadline n) s = .next t
        ∧ t
          = { s with
              clock := t.clock
              members.peers :=
                s.members.peers.set n
                  { p with state := .doubtful2, missed := 2, deadline := some (t0 + 10 * h.period.toNat) } })
    ∧ ∀ q : Vector Peer 16, p.deadline = some t0 → p.state = .doubtful2 →
      q = s.members.peers.set n { p with state := .lost, missed := 3, deadline := none } →
      ∃ t, exec (.supervisionDeadline n) s = .next t
        ∧ t
          = raiseFlag .peerChange
              { s with
                clock := t.clock
                members.peers := q
                members.expected := expectedOf q
                members.adopted := adoptedOf (prof s).fallback q }

/-- R124, R125: the expected-contributor set lists, for each slot present for decisions with the SENSE role, its node and
datum; the adopted-class set is the fallback set without every class a present EJECT peer lists as primary. -/
def Obligations.DerivedSetsFollowThePeerTable : Prop :=
  ∀ (peers : Vector Peer 16) (fallback : ClassSet),
    (∀ (n : Fin 16) (d : BitVec 24),
      (n, d) ∈ expectedOf peers
        ↔ ∃ h, (peers[n].state = .present ∨ peers[n].state = .doubtful1 ∨ peers[n].state = .doubtful2)
            ∧ peers[n].content = some h ∧ h.sense = true ∧ h.datum = d)
    ∧ (expectedOf peers).Pairwise (fun a b => a.1 < b.1)
    ∧ ∀ c : Fin 16,
      (adoptedOf fallback peers).getLsbD c = true
        ↔ fallback.getLsbD c = true
          ∧ ∀ (n : Fin 16) (h : Heartbeat),
            (peers[n].state = .present ∨ peers[n].state = .doubtful1 ∨ peers[n].state = .doubtful2) →
            peers[n].content = some h → h.eject = true → h.primary.getLsbD c = false

/-! ### The claim unit (chapter 8) -/

/-- R132, R135: the oldest urgent entry, a peer's CLAIM, sets the owner of a track that has none; with an owner recorded it
is counted ignored, and an unknown ID is counted. A station that keeps no tracks discards it uncounted. Each removal brings
every drop notice nearer by one; a notice whose number is reached is applied as an entry at that place: a CLAIM met first or
second, a RELEASE by this station, or a FIRED. -/
def Obligations.FirstClaimSetsTheOwner : Prop :=
  ∀ (s v : State) (e : QueueEntry) (rest : List QueueEntry) (id : PieceId) (c : ClassCode), BarInStep s →
    s.accept.urgent = e :: rest → e.wire = .claim id c → e.own = false →
    v
      = { s with
          accept.urgent := rest
          accept.overrun := s.accept.overrun && !rest.isEmpty
          claim.dropNotices := s.claim.dropNotices.map fun n => { n with remaining := n.remaining - 1 } } →
    ((∀ n ∈ s.claim.dropNotices, 2 ≤ n.remaining) →
      ((prof s).sense = false → (prof s).eject = false → exec .claimEntryTaken s = .next v)
      ∧ (((prof s).sense = true ∨ (prof s).eject = true) →
        (trackOf id s = none → exec .claimEntryTaken s = .next { v with claim.unknownId := bump s.claim.unknownId })
        ∧ (∀ t n, trackOf id s = some t → t.owner = some n →
          exec .claimEntryTaken s = .next { v with claim.ignored := bump s.claim.ignored })
        ∧ (∀ t, trackOf id s = some t → t.owner = none → t.own ≠ .pending →
          exec .claimEntryTaken s
            = .next
                { v with
                  engine.tracks := s.engine.tracks.map fun u => if u.key = t.key then { u with owner := some e.origin } else u })))
    ∧ ∀ (n : DropNotice) (later later' : List DropNotice) (t : Track),
      s.claim.dropNotices = n :: later → n.remaining = 1 → (∀ k ∈ later, 2 ≤ k.remaining) →
      (later' = later.map fun k => { k with remaining := k.remaining - 1 }) →
      ((prof s).sense = true ∨ (prof s).eject = true) → trackOf id s = none → trackOf n.id s = some t →
      (n.kind = .fired →
        exec .claimEntryTaken s
          = .next
              { v with
                claim.dropNotices := later'
                claim.unknownId := bump s.claim.unknownId
                engine.tracks :=
                  s.engine.tracks.map fun u => if u.key = t.key then { u with firedBy := some (prof s).node } else u })
      ∧ (n.kind = .release → t.owner = some (prof s).node →
        exec .claimEntryTaken s
          = .next
              { v with
                claim.dropNotices := later'
                claim.unknownId := bump s.claim.unknownId
                engine.tracks :=
                  s.engine.tracks.map fun u =>
                    if u.key = t.key then
                      { u with
                        owner := none
                        releasedBy :=
                          if (prof s).node ∈ u.releasedBy then u.releasedBy else u.releasedBy ++ [(prof s).node] }
                    else u })
      ∧ (∀ r, n.kind = .claim → t.owner = none → s.claim.ownClaims = [r] → r.id = n.id → r.met = false → r.giveUp = none →
        r.orphan = false →
        exec .claimEntryTaken s
          = .next
              { v with
                claim.dropNotices := later'
                claim.unknownId := bump s.claim.unknownId
                claim.won := bump s.claim.won
                claim.ownClaims := if r.outcomeTaken then [] else [{ r with met := true, metFirst := true }]
                engine.tracks :=
                  s.engine.tracks.map fun u =>
                    if u.key = t.key then { u with owner := some (prof s).node, own := .owned } else u
                sched.entries :=
                  s.sched.entries.map fun x =>
                    if x.track = t.key ∧ x.state = .reserved then { x with state := .armed } else x })
      ∧ ∀ r m, n.kind = .claim → t.owner = some m → s.claim.ownClaims = [r] → r.id = n.id → r.met = false →
        r.outcomeTaken = false → r.orphan = false →
        exec .claimEntryTaken s
          = .next
              { v with
                claim.dropNotices := later'
                claim.unknownId := bump s.claim.unknownId
                claim.ignored := bump s.claim.ignored
                claim.ownClaims := [{ r with met := true }] }

/-- R138: an own CLAIM met first makes the track OWNED by this station, arms its RESERVED entry and is counted won; its
record goes when its outcome has been taken, else waits for it. -/
def Obligations.OwnClaimMetFirstWinsThePiece : Prop :=
  ∀ (s : State) (e : QueueEntry) (rest : List QueueEntry) (id : PieceId) (c : ClassCode) (t : Track) (r : OwnClaim),
    BarInStep s → s.accept.urgent = e :: rest → e.wire = .claim id c → e.own = true → e.origin = (prof s).node →
    s.claim.dropNotices = [] → (prof s).eject = true → trackOf id s = some t → t.owner = none →
    s.claim.ownClaims = [r] → r.id = id → r.met = false → r.giveUp = none → r.orphan = false →
    exec .claimEntryTaken s
      = .next
          { s with
            accept.urgent := rest
            accept.overrun := s.accept.overrun && !rest.isEmpty
            engine.tracks :=
              s.engine.tracks.map fun u =>
                if u.key = t.key then { u with owner := some (prof s).node, own := .owned } else u
            sched.entries :=
              s.sched.entries.map fun x =>
                if x.track = t.key ∧ x.state = .reserved then { x with state := .armed } else x
            claim.won := bump s.claim.won
            claim.ownClaims := if r.outcomeTaken then [] else [{ r with met := true, metFirst := true }] }

/-- R139: a peer's CLAIM met first for a track whose own claim is PENDING is a claim lost: the owner is the peer, the
own-state LOST, and the track's entry has left the schedule. -/
def Obligations.PeerClaimMetFirstLosesThePiece : Prop :=
  ∀ (s : State) (e : QueueEntry) (rest : List QueueEntry) (id : PieceId) (c : ClassCode) (t : Track) (r : OwnClaim),
    KeysFresh s → s.accept.urgent = e :: rest → e.wire = .claim id c → e.own = false → s.claim.dropNotices = [] →
    (prof s).eject = true → trackOf id s = some t → t.owner = none → t.own = .pending → t.heldRetirement = false →
    s.claim.ownClaims = [r] → r.id = id → r.metFirst = false →
    ∃ u, exec .claimEntryTaken s = .next u ∧ u.accept.urgent = rest
      ∧ u.claim.lost = bump s.claim.lost
      ∧ u.sched.entries = s.sched.entries.filter (fun x => x.track ≠ t.key)
      ∧ (∀ v ∈ u.engine.tracks, v.key = t.key → v.own = .lost ∧ v.owner = some e.origin)
      ∧ (∀ x ∈ s.sched.entries, x.track = t.key → s.port.outcomes.length < 32 →
          ∃ rec, u.port.outcomes = s.port.outcomes ++ [rec] ∧ rec.result = .claimLost e.origin)
      ∧ u.belt = s.belt ∧ u.intake = s.intake ∧ u.members.peers = s.members.peers

/-- R133: a RELEASE from the recorded owner clears the owner and adds the origin to released-by; from another, or with no
owner, it is counted ignored; an unknown ID is counted. Where no re-examination follows, nothing else changes but LOST to
NONE at an EJECT station. -/
def Obligations.ReleaseFromTheOwnerFreesThePiece : Prop :=
  ∀ (s : State) (e : QueueEntry) (rest : List QueueEntry) (id : PieceId) (why : ReleaseReason), BarInStep s →
    s.accept.urgent = e :: rest → e.wire = .release id why → s.claim.dropNotices = [] →
    ((prof s).sense = true ∨ (prof s).eject = true) →
    (trackOf id s = none →
      exec .releaseEntryTaken s
        = .next
            { s with
              accept.urgent := rest
              accept.overrun := s.accept.overrun && !rest.isEmpty
              claim.unknownId := bump s.claim.unknownId })
    ∧ (∀ t, trackOf id s = some t → t.owner ≠ some e.origin →
      exec .releaseEntryTaken s
        = .next
            { s with
              accept.urgent := rest
              accept.overrun := s.accept.overrun && !rest.isEmpty
              claim.ignored := bump s.claim.ignored })
    ∧ (∀ t, trackOf id s = some t → t.owner = some e.origin → (e.own = true ∨ (prof s).eject = false) →
      exec .releaseEntryTaken s
        = .next
            { s with
              accept.urgent := rest
              accept.overrun := s.accept.overrun && !rest.isEmpty
              engine.tracks :=
                s.engine.tracks.map fun u =>
                  if u.key = t.key then
                    { u with
                      owner := none
                      releasedBy := if e.origin ∈ u.releasedBy then u.releasedBy else u.releasedBy ++ [e.origin] }
                  else u })
    ∧ ∀ t, trackOf id s = some t → t.owner = some e.origin → e.own = false → (prof s).eject = true → t.own = .lost →
      s.port.station = .halting →
      exec .releaseEntryTaken s
        = .next
            { s with
              accept.urgent := rest
              accept.overrun := s.accept.overrun && !rest.isEmpty
              engine.tracks :=
                s.engine.tracks.map fun u =>
                  if u.key = t.key then
                    { u with
                      owner := none
                      releasedBy := if e.origin ∈ u.releasedBy then u.releasedBy else u.releasedBy ++ [e.origin]
                      own := .none }
                  else u }

/-- R134, R184: a FIRED sets fired-by of the track its ID names, and an unknown ID is counted, owner and own-state
untouched. At a CHECK station that keeps no tracks it goes to the chute check unit, which discards it from a bar not
watched, and from the watched one puts an expectation for its flight window. -/
def Obligations.FiredIsRecordedAndHandedToTheChuteCheck : Prop :=
  ∀ (s : State) (e : QueueEntry) (rest : List QueueEntry) (since : BitVec 16) (info : FiredInfo) (close : Count),
    BarInStep s → s.accept.urgent = e :: rest → e.wire = .fired since info → s.claim.dropNotices = [] →
    close = e.latch - since.setWidth 32 →
    (((prof s).sense = true ∨ (prof s).eject = true) → (prof s).check = false →
      (∀ t, trackOf info.id s = some t →
        exec .firedEntryTaken s
          = .next
              { s with
                accept.urgent := rest
                accept.overrun := s.accept.overrun && !rest.isEmpty
                engine.tracks :=
                  s.engine.tracks.map fun u => if u.key = t.key then { u with firedBy := some e.origin } else u })
      ∧ (trackOf info.id s = none →
        exec .firedEntryTaken s
          = .next
              { s with
                accept.urgent := rest
                accept.overrun := s.accept.overrun && !rest.isEmpty
                claim.unknownId := bump s.claim.unknownId }))
    ∧ ((prof s).sense = false → (prof s).eject = false → (prof s).check = true →
      (e.origin ≠ (prof s).watchedBar →
        exec .firedEntryTaken s
          = .next { s with accept.urgent := rest, accept.overrun := s.accept.overrun && !rest.isEmpty })
      ∧ (e.origin = (prof s).watchedBar → s.chute.expectations.length < 16 →
        reached s (close + BitVec.ofNat 32 (prof s).flightMax) = false →
        (∀ a ∈ s.chute.held,
          (a.count - (close + BitVec.ofNat 32 (prof s).flightMin)).toInt < 0
            ∨ 0 < (a.count - (close + BitVec.ofNat 32 (prof s).flightMax)).toInt) →
        exec .firedEntryTaken s
          = .next
              { s with
                accept.urgent := rest
                accept.overrun := s.accept.overrun && !rest.isEmpty
                chute.firedTaken := bump s.chute.firedTaken
                chute.nextAge := s.chute.nextAge + 1
                chute.expectations :=
                  insertBefore (fun y => 0 < (y.earliest - (close + BitVec.ofNat 32 (prof s).flightMin)).toInt)
                    { id := info.id
                      earliest := close + BitVec.ofNat 32 (prof s).flightMin
                      latest := close + BitVec.ofNat 32 (prof s).flightMax
                      age := s.chute.nextAge } s.chute.expectations }))

/-! ### The firing scheduler (chapter 9) -/

/-- R160, R161, R163, R176: at its open count an ARMED entry with the line RUNNING, a valve still ACTIVE and the supply
READY or LOW opens, driving those valves, each counted; a RESERVED one leaves CLAIM_LATE, and an ARMED one NOT_FIRED with
the reason of the first check that fails. A count still ahead, and an entry already OPEN, change nothing. The model's
choices it rests on: assumption log 3, 11. -/
def Obligations.ReachedOpenCountsOpenOrEndTheEntry : Prop :=
  ∀ (s : State) (id : PieceId) (t : Track) (e : Entry) (vs : ValveSet), BarInStep s →
    trackOf id s = some t → s.sched.entries.find? (fun x => x.track = t.key) = some e →
    vs = e.valves &&& activeValves s →
    ((reached s e.openCount = false ∨ e.state = .opened) → exec (.openCountReached id) s = .next s)
    ∧ (reached s e.openCount = true → e.state = .armed → s.belt.motion = .running → vs ≠ 0 →
      (s.air.supply = .ready ∨ s.air.supply = .low) →
      ∃ u, exec (.openCountReached id) s = .next u
        ∧ u.sched.entries
          = s.sched.entries.map (fun x =>
              if x.track = e.track then
                { e with
                  valves := vs
                  state := .opened
                  drive := vs
                  weak := e.weak || s.air.supply = .low
                  guard := some (s.clock + (prof s).maxOnTime) }
              else x)
        ∧ (∀ v : Fin 64, u.valves.valve[v]
            = if vs.getLsbD v ∧ s.valves.valve[v].fired ≠ 0xFFFFFFFF#32 then
                { s.valves.valve[v] with fired := s.valves.valve[v].fired + 1 }
              else s.valves.valve[v])
        ∧ u.bar.drive = driveOf u ∧ u.engine = s.engine ∧ u.port = s.port ∧ u.link = s.link ∧ u.claim = s.claim
        ∧ u.belt = s.belt)
    ∧ (reached s e.openCount = true → s.port.outcomes.length < 32 →
      ∀ result,
        (e.state = .reserved ∧ result = .claimLate false
          ∨ e.state = .armed ∧ s.belt.motion ≠ .running ∧ result = .notFired .stopped
          ∨ e.state = .armed ∧ s.belt.motion = .running ∧ vs = 0 ∧ result = .notFired .noValve
          ∨ e.state = .armed ∧ s.belt.motion = .running ∧ vs ≠ 0 ∧ s.air.supply ≠ .ready ∧ s.air.supply ≠ .low
            ∧ result = .notFired .supply) →
        ∃ u rec, exec (.openCountReached id) s = .next u
          ∧ u.sched.entries = s.sched.entries.filter (fun x => x.track ≠ e.track)
          ∧ u.port.outcomes = s.port.outcomes ++ [rec] ∧ rec.result = result ∧ rec.cls = e.cls
          ∧ rec.openCount = e.openCount ∧ rec.mode = s.engine.mode ∧ u.belt = s.belt ∧ u.accept = s.accept)

/-- R144, R162, R163, R166, R177: an OPEN entry closes FIRED at its close count, and at its guard with CUT counted. It
leaves the schedule and the drive, its record joins the outcome queue, its firing the recent-firings list, and a FIRED is
requested. The model's choices it rests on: assumption log 2. -/
def Obligations.OpenEntriesCloseFired : Prop :=
  ∀ (s : State) (id : PieceId) (t : Track) (e : Entry), KeysFresh s →
    trackOf id s = some t → s.sched.entries.find? (fun x => x.track = t.key) = some e → e.state = .opened →
    s.port.outcomes.length < 32 → s.valves.recent.length < 16 → s.link.state = .active → s.link.slots.length < 8 →
    reached s (s.belt.count + BitVec.ofNat 32 (prof s).flightMax) = false →
    ∀ (c : Instr) (cut : Bool) (clock : Nat),
      (c = .closeCountReached id ∧ reached s e.closeCount = true ∧ cut = e.cut ∧ clock = s.clock
        ∨ ∃ g, c = .guardExpiry id ∧ e.guard = some g ∧ cut = true ∧ clock = max s.clock g) →
      ∃ u rec, exec c s = .next u ∧ u.clock = clock
        ∧ u.sched.entries = s.sched.entries.filter (fun x => x.track ≠ t.key)
        ∧ u.bar.drive = driveOf u
        ∧ u.port.outcomes = s.port.outcomes ++ [rec] ∧ rec.result = .fired ∧ rec.id = t.primary ∧ rec.cls = e.cls
        ∧ rec.cut = cut ∧ rec.lateEvidence = t.lateEvidence ∧ rec.openCount = e.openCount
        ∧ u.valves.recent = s.valves.recent ++ [(t.primary, e.valves)]
        ∧ (c = .guardExpiry id → u.sched.cut = bump s.sched.cut)
        ∧ (c = .closeCountReached id → u.sched.cut = s.sched.cut)
        ∧ u.link.slots
          = s.link.slots
            ++ [{ handle := s.link.nextHandle
                  status := .pending
                  notice :=
                    .fired s.belt.count
                      { id := t.primary
                        trimmed := e.trimmed
                        clamped := e.clamped
                        cut := cut
                        weak := e.weak
                        first := Fin.ofNat 64 (lowestValve e.valves)
                        last := Fin.ofNat 64 (highestValve e.valves)
                        valves := BitVec.ofNat 8 (valveCount e.valves) }
                  deadline := some (s.belt.count + BitVec.ofNat 32 (prof s).flightMax)
                  deadlineMet := false
                  failedAttempts := 0
                  latch := none }]
        ∧ u.belt = s.belt ∧ u.accept = s.accept ∧ u.intake = s.intake

/-- Every step keeps this: the drive and the pilot last taken for a transfer are those the OPEN entries and the supply give
(R163). The model's choices it rests on: assumption log 25. -/
def Obligations.BarFollowsTheScheduleAndTheSupply : Prop := KeptByEveryStep BarInStep

/-- Every step keeps this: every valve that an OPEN entry drives is ACTIVE in the valve map (R160, R163, R165), and an entry
is OPEN only while the supply is READY or LOW (R160, R163, R167). -/
def Obligations.DrivenValvesStayActive : Prop := KeptByEveryStep DrivesActive ∧ KeptByEveryStep OpensOnAir

/-! ### Valve map and health, air supply, chute check (chapter 10) -/

/-- Every step keeps the laws of R170: each covered valve has an ACTIVE neighbour of its own, and at most eight are covered.
-/
def Obligations.ValveMapLawsHoldAfterEveryStep : Prop := KeptByEveryStep MapLawful

/-- R163, R174, R175: the nine bytes sent hold the pilot in bit 7 of byte 0 and valve 8 (k - 1) + i in bit i of byte k, and
those returned the fault mask in the same places. At the end of a transfer every flagged ACTIVE valve and every valve it
covered is out of service, flagged ACTIVE and covered valves are counted and set VALVE_FAULT, and with auto-cover off they
are RETIRED and no other valve changes. With it on, each is RETIRED or covered, one fault alone by its right neighbour if
that qualifies, else by its left. Without a fault the next transfer starts if one is wanted. The model's choices it rests
on: assumption log 25. -/
def Obligations.FaultedValvesAreRetired : Prop :=
  (∀ (drive : ValveSet) (pilot : Bool) (sent : List Byte), sent = transferBytes drive pilot →
    sent.length = 9 ∧ (∀ k : Fin 8, bitAt sent 0 k = (decide (k = 7) && pilot))
      ∧ ∀ v : Fin 64, bitAt sent (1 + v.val / 8) (v.val % 8) = drive.getLsbD v)
  ∧ ∀ (s : State) (returned : List Byte) (mask : ValveSet) (out : Fin 64 → Prop), s.bar.transfer.isSome = true →
    (∀ v : Fin 64, mask.getLsbD v = bitAt returned (1 + v.val / 8) (v.val % 8)) →
    (out = fun (v : Fin 64) =>
      mask.getLsbD v = true ∧ s.valves.valve[v].descriptor = .active
        ∨ ∃ u : Fin 64, mask.getLsbD u = true ∧ s.valves.valve[u].descriptor = .active
          ∧ (s.valves.valve[v].descriptor = .coveredLeft ∧ u.val + 1 = v.val
            ∨ s.valves.valve[v].descriptor = .coveredRight ∧ u.val = v.val + 1)) →
    (BarInStep s → mask = 0 →
      exec (.transferComplete returned) s
        = .next
            { s with
              bar.transfer := if s.bar.again then some (transferBytes s.bar.drive s.bar.pilot) else none
              bar.again := false })
    ∧ ∃ t, exec (.transferComplete returned) s = .next t
      ∧ t.valves.valveFaults.toNat
        = min 65535
            (s.valves.valveFaults.toNat
              + ((List.finRange 64).filter fun (v : Fin 64) =>
                  mask.getLsbD v && decide (s.valves.valve[v].descriptor ≠ .retired)).length)
      ∧ ((∃ v : Fin 64, mask.getLsbD v = true ∧ s.valves.valve[v].descriptor ≠ .retired) → t.port.flags.getLsbD 3 = true)
      ∧ (∀ x ∈ t.sched.entries, x.state = .opened →
          ∀ v : Fin 64, mask.getLsbD v = true → s.valves.valve[v].descriptor = .active → x.drive.getLsbD v = false)
      ∧ t.bar.drive = driveOf t ∧ t.engine = s.engine ∧ t.link = s.link ∧ t.belt = s.belt
      ∧ (∀ v : Fin 64, ¬ out v → t.valves.valve[v] = s.valves.valve[v])
      ∧ (∀ v : Fin 64, out v → ∃ d, d ≠ .active ∧ t.valves.valve[v] = { s.valves.valve[v] with descriptor := d })
      ∧ ((prof s).autoCover = false → ∀ v : Fin 64, out v → t.valves.valve[v].descriptor = .retired)
      ∧ ∀ (v : Fin 64) (right left : Prop), (prof s).autoCover = true → (∀ u : Fin 64, out u ↔ u = v) →
        right
          = ((∃ u : Fin 64, u.val = v.val + 1 ∧ s.valves.valve[u].descriptor = .active)
            ∧ (∀ u : Fin 64, u.val = v.val + 2 → s.valves.valve[u].descriptor ≠ .coveredLeft)
            ∧ coverTableSize s.valves.valve < 8) →
        left
          = ((∃ u : Fin 64, u.val + 1 = v.val ∧ s.valves.valve[u].descriptor = .active)
            ∧ (∀ u : Fin 64, u.val + 2 = v.val → s.valves.valve[u].descriptor ≠ .coveredRight)
            ∧ coverTableSize s.valves.valve < 8) →
        (right → t.valves.valve[v].descriptor = .coveredRight)
        ∧ (¬ right → left → t.valves.valve[v].descriptor = .coveredLeft)
        ∧ (¬ right → ¬ left → t.valves.valve[v].descriptor = .retired)
        ∧ ((right ∨ left) → t.valves.autoCovers = bump s.valves.autoCovers)

/-- R108, R178: a CONFIRM is matched to the oldest recent firing of its piece, which leaves the list. ARRIVED clears the
streak and mark of its valves; ABSENT adds one to each streak, to at most 15, and marks those at the threshold. One not
listed is counted. -/
def Obligations.ConfirmsMoveTheStreaks : Prop :=
  ∀ (s : State) (e : QueueEntry) (rest : List QueueEntry) (id : PieceId) (ch : Fin 4) (res : ConfirmResult),
    takeFirst isConfirm s.accept.general = some (e, rest) → e.wire = .confirm id ch res →
    ((∀ x ∈ s.valves.recent, x.1 ≠ id) →
      exec .confirmEntryTaken s
        = .next { s with accept.general := rest, valves.unlistedConfirms := bump s.valves.unlistedConfirms })
    ∧ ∀ older vs newer, s.valves.recent = older ++ (id, vs) :: newer → (∀ x ∈ older, x.1 ≠ id) →
      ∃ t, exec .confirmEntryTaken s = .next t
        ∧ t.accept = { s.accept with general := rest } ∧ t.valves.recent = older ++ newer
        ∧ (∀ v : Fin 64,
            t.valves.valve[v]
              = if vs.getLsbD v then
                  match res with
                  | .arrived => { s.valves.valve[v] with streak := 0, suspect := false }
                  | .absent =>
                    { s.valves.valve[v] with
                      streak := min 15 (s.valves.valve[v].streak + 1)
                      suspect :=
                        s.valves.valve[v].suspect || (prof s).suspectThreshold ≤ min 15 (s.valves.valve[v].streak + 1) }
                else s.valves.valve[v])
        ∧ ((∃ v : Fin 64, s.valves.valve[v].suspect = false ∧ t.valves.valve[v].suspect = true) →
            t.port.flags.getLsbD 4 = true)
        ∧ ((∀ v : Fin 64, s.valves.valve[v].suspect = true ∨ t.valves.valve[v].suspect = false) → t.port = s.port)
        ∧ t.engine = s.engine ∧ t.sched = s.sched ∧ t.link = s.link ∧ t.chute = s.chute

/-- R167, R180 to R183: pressure-ok active turns CHARGING to READY, stopping the charge timer and with an empty schedule
starting the standby timer, and LOW to READY; inactive it turns READY to LOW, the OPEN entries WEAK. At a station without
EJECT only the line's level is kept. The charge timer's end in CHARGING is a supply fault, counted and flagged, that closes
the pilot and ends every entry; the standby timer's end in READY or LOW closes the pilot, and no entry stays OPEN. Taken at
the moment of an admission that stopped the timer with its time up, the end still leaves STANDBY, the entry waiting; later
it is none. The model's choices it rests on: assumption log 2, 36. -/
def Obligations.SupplyFollowsPressureAndTimers : Prop :=
  ∀ s : State, BarInStep s →
    ((prof s).eject = false →
      exec .pressureOkActive s = .next { s with air.pressureOk := true }
      ∧ exec .pressureOkInactive s = .next { s with air.pressureOk := false })
    ∧ ((prof s).eject = true → s.air.supply = .charging →
      exec .pressureOkActive s
        = .next
            { s with
              air.pressureOk := true
              air.supply := .ready
              air.chargeTimer := none
              air.standbyTimer :=
                if s.sched.entries = [] ∧ (prof s).standbyTime ≠ 0 then some (s.clock + (prof s).standbyTime * 10000)
                else s.air.standbyTimer
              air.standbyDue := if s.sched.entries = [] ∧ (prof s).standbyTime ≠ 0 then none else s.air.standbyDue })
    ∧ ((prof s).eject = true → s.air.supply = .low →
      exec .pressureOkActive s = .next { s with air.pressureOk := true, air.supply := .ready })
    ∧ ((prof s).eject = true → s.air.supply = .ready →
      exec .pressureOkInactive s
        = .next
            { s with
              air.pressureOk := false
              air.supply := .low
              sched.entries := s.sched.entries.map fun e => if e.state = .opened then { e with weak := true } else e })
    ∧ ((prof s).eject = true → (s.air.supply = .standby ∨ s.air.supply = .ready ∨ s.air.supply = .fault) →
      exec .pressureOkActive s = .next { s with air.pressureOk := true })
    ∧ ∀ t0,
      (s.air.supply = .charging → s.air.chargeTimer = some t0 →
        ∃ t, exec .chargeTimerExpiry s = .next t ∧ t.air.supply = .fault ∧ t.air.chargeTimer = none
          ∧ t.air.faults = bump s.air.faults ∧ t.port.flags.getLsbD 5 = true ∧ t.sched.entries = []
          ∧ t.bar.pilot = false ∧ t.bar.drive = 0 ∧ t.clock = max s.clock t0 ∧ t.belt = s.belt ∧ t.accept = s.accept)
      ∧ ((s.air.supply = .ready ∨ s.air.supply = .low) →
        (s.air.standbyTimer = some t0
          ∨ s.air.standbyTimer = none ∧ s.air.standbyDue = some s.clock ∧ t0 = s.clock) →
        ∃ t, exec .standbyTimerExpiry s = .next t ∧ t.air.supply = .standby
          ∧ ((∀ e ∈ s.sched.entries, e.state ≠ .opened) →
            t.air.standbyTimer = none ∧ t.sched.entries = s.sched.entries ∧ t.engine = s.engine ∧ t.port = s.port
              ∧ t.link = s.link)
          ∧ (∀ e ∈ t.sched.entries, e.state ≠ .opened) ∧ t.bar.pilot = false ∧ t.bar.drive = 0
          ∧ t.clock = max s.clock t0 ∧ t.belt = s.belt ∧ t.accept = s.accept)
      ∧ (s.air.standbyTimer = none → s.air.standbyDue ≠ some s.clock → exec .standbyTimerExpiry s = .next s)

/-- R185, R187: an arrival at another chute is counted; one within an expectation's window confirms the oldest such
expectation ARRIVED in a slot; any other is held, the oldest of eight leaving as a stray. -/
def Obligations.ArrivalsConfirmOrAreHeld : Prop :=
  ∀ (s : State) (a : Arrival) (rest : List IntakeEntry), (s.port.station = .running ∨ s.port.station = .halting) →
    takeFirst isArrivalEntry s.intake.queue = some (.arrival a, rest) →
    (a.chute ≠ (prof s).watchedChute →
      exec .arrivalEntryTaken s
        = .next { s with intake.queue := rest, chute.otherChute := bump s.chute.otherChute })
    ∧ (∀ e, a.chute = (prof s).watchedChute → e ∈ s.chute.expectations →
      0 ≤ (a.count - e.earliest).toInt → (a.count - e.latest).toInt ≤ 0 →
      (∀ x ∈ s.chute.expectations, x ≠ e → 0 ≤ (a.count - x.earliest).toInt → (a.count - x.latest).toInt ≤ 0 →
        e.age < x.age) →
      s.link.state = .active → s.link.slots.length < 8 →
      exec .arrivalEntryTaken s
        = .next
            { s with
              intake.queue := rest
              chute.arrived := bump s.chute.arrived
              chute.expectations := s.chute.expectations.filter fun x => x.age ≠ e.age
              link.nextHandle := s.link.nextHandle + 1
              link.slots :=
                s.link.slots
                  ++ [{ handle := s.link.nextHandle
                        status := .pending
                        notice := .confirm e.id (prof s).watchedChute .arrived
                        deadline := none
                        deadlineMet := false
                        failedAttempts := 0
                        latch := none }] })
    ∧ (a.chute = (prof s).watchedChute →
      (∀ x ∈ s.chute.expectations, (a.count - x.earliest).toInt < 0 ∨ 0 < (a.count - x.latest).toInt) →
      (s.chute.held.length < 8 →
        exec .arrivalEntryTaken s
          = .next
              { s with
                intake.queue := rest
                chute.held := s.chute.held ++ [⟨a.count, a.count + BitVec.ofNat 32 (prof s).flightMax⟩] })
      ∧ (8 ≤ s.chute.held.length →
        exec .arrivalEntryTaken s
          = .next
              { s with
                intake.queue := rest
                chute.strays := bump s.chute.strays
                chute.held := s.chute.held.drop 1 ++ [⟨a.count, a.count + BitVec.ofNat 32 (prof s).flightMax⟩] }))

/-- R186, R187, R188: an expectation whose latest count is reached goes, and a CONFIRM ABSENT is requested, unsent where no
slot is free; a held arrival whose leave count is reached goes as a stray. Outside RUNNING and HALTING nothing expires. The
model's choices it rests on: assumption log 3, 11. -/
def Obligations.WaitingChuteRecordsExpire : Prop :=
  ∀ (s : State) (id : PieceId),
    (s.port.station ≠ .running → s.port.station ≠ .halting →
      exec (.expectationExpiry id) s = .next s ∧ exec .heldArrivalLeave s = .next s)
    ∧ (∀ before e after, (s.port.station = .running ∨ s.port.station = .halting) →
      s.chute.expectations = before ++ e :: after → e.id = id → reached s e.latest = true →
      (∀ x ∈ before, x.id ≠ id ∨ reached s x.latest = false) →
      (s.link.state = .active → s.link.slots.length < 8 →
        exec (.expectationExpiry id) s
          = .next
              { s with
                chute.absent := bump s.chute.absent
                chute.expectations := before ++ after
                link.nextHandle := s.link.nextHandle + 1
                link.slots :=
                  s.link.slots
                    ++ [{ handle := s.link.nextHandle
                          status := .pending
                          notice := .confirm id (prof s).watchedChute .absent
                          deadline := none
                          deadlineMet := false
                          failedAttempts := 0
                          latch := none }] })
      ∧ ((∃ cause, s.link.state = .silent cause) ∨ 8 ≤ s.link.slots.length →
        exec (.expectationExpiry id) s
          = .next
              { s with
                chute.absent := bump s.chute.absent
                chute.expectations := before ++ after
                chute.confirmUnsent := bump s.chute.confirmUnsent }))
    ∧ ∀ before a after, (s.port.station = .running ∨ s.port.station = .halting) →
      s.chute.held = before ++ a :: after → reached s a.leave = true → (∀ x ∈ before, reached s x.leave = false) →
      exec .heldArrivalLeave s
        = .next { s with chute.held := before ++ after, chute.strays := bump s.chute.strays }

/-! ### The station port and the station state (chapter 11) -/

/-- R92, R147, R183: when HALTING has no claim work left the station is HALTED: the link OFFLINE with every slot ended, the
tables and queues empty, the supply in STANDBY with both timers stopped and the pilot closed; the peer table is kept. Before
that, and in another state, nothing happens. The model's choices it rests on: assumption log 3. -/
def Obligations.HaltingEndsWithoutClaimWork : Prop :=
  ∀ s : State,
    (s.port.station = .halting → s.claim.ownClaims = [] → s.claim.dropNotices = [] →
      (∀ x ∈ s.link.slots, (∃ b, x.notice = .heartbeat b) ∨ (∃ d i, x.notice = .piece d i)
        ∨ ∃ id ch res, x.notice = .confirm id ch res) →
      ∃ t, exec .haltingEnd s = .next t ∧ t.port.station = .halted ∧ t.link.state = .offline ∧ t.link.slots = []
        ∧ t.link.run = none ∧ t.link.frame = .idle ∧ t.members.heartbeatTimer = none ∧ t.link.listeningTimer = none
        ∧ t.engine.tracks = [] ∧ t.intake.queue = [] ∧ t.accept.general = [] ∧ t.accept.urgent = []
        ∧ t.accept.overrun = false ∧ t.sched.entries = [] ∧ t.chute.expectations = [] ∧ t.chute.held = []
        ∧ t.air.supply = .standby ∧ t.air.chargeTimer = none ∧ t.air.standbyTimer = none ∧ t.air.standbyDue = none
        ∧ t.bar.pilot = false ∧ t.bar.drive = 0 ∧ t.members.peers = s.members.peers ∧ t.belt = s.belt
        ∧ t.valves = s.valves ∧ t.port.profile = s.port.profile ∧ t.port.outcomes = s.port.outcomes)
    ∧ ((s.port.station ≠ .halting ∨ s.claim.ownClaims ≠ [] ∨ s.claim.dropNotices ≠ []
        ∨ ∃ x ∈ s.link.slots, noticeClass x.notice = .urgent) →
      exec .haltingEnd s = .next s)

/-- R190 to R193: a load accepted in its state whose checks all pass is held whole, the station is READY, the mode and
return counter come from it, the window timer stops, its own peer slot is emptied and both derived sets are recomputed. The
first check that fails answers with its field's index, a wrong length with 0, another state with REFUSED_STATE, all else
kept. The model's choices it rests on: assumption log 26, 27, 41. -/
def Obligations.LoadedProfileIsCheckedAndHeldWhole : Prop :=
  ∀ (s : State) (arg : List Byte), s.port.resetPending = false → s.port.resetHeld = false →
    ((s.port.station = .running ∨ s.port.station = .halting) →
      exec (.loadProfile arg) s = .next { s with port.response := [1, 0, 0] })
    ∧ ((s.port.station = .unconfigured ∨ s.port.station = .ready ∨ s.port.station = .halted) →
      (arg.length ≠ 278 → exec (.loadProfile arg) s = .next { s with port.response := [2, 0, 1, 0] })
      ∧ (∀ before index after, arg.length = 278 → profileChecks arg = before ++ (index, false) :: after →
        (∀ c ∈ before, c.2 = true) →
        exec (.loadProfile arg) s = .next { s with port.response := [2, 0, 1, byteOf index] })
      ∧ ∀ q : Vector Peer 16, arg.length = 278 → (∀ c ∈ profileChecks arg, c.2 = true) →
        q = s.members.peers.set (profileOf arg).node Peer.empty →
        exec (.loadProfile arg) s
          = .next
              { s with
                port.profile := some (profileOf arg)
                port.station := .ready
                port.response := [0, 0, 0]
                engine.mode := if (profileOf arg).quickOnly then .quick else .full
                engine.returnCounter := 0
                belt.windowTimer := none
                members.peers := q
                members.expected := expectedOf q
                members.adopted := adoptedOf (profileOf arg).fallback q })

/-- R3, R9, R26, R90, R128, R190, R191: START in READY or HALTED empties the tables and queues, clears the speed window from
READY and keeps it from HALTED, sets the next strobe count, takes the mode from the profile and puts the link in LISTENING
for two heartbeat periods. RESUME LINK, in RUNNING with the link SILENT, starts LISTENING afresh (R91). Elsewhere both are
refused. The model's choices it rests on: assumption log 26. -/
def Obligations.StartRunsTheStation : Prop :=
  ∀ s : State, s.port.resetPending = false → s.port.resetHeld = false →
    ((s.port.station ≠ .ready ∧ s.port.station ≠ .halted) →
      exec (.start []) s = .next { s with port.response := [1, 0, 0] })
    ∧ ((s.port.station = .ready ∨ s.port.station = .halted) →
      ∃ t, exec (.start []) s = .next t
        ∧ t.port = { s.port with station := .running, response := [0, 0, 0] }
        ∧ t.belt
          = (if s.port.station = .ready then
              { s.belt with
                windowList := Vector.replicate 4 0
                forward := 0
                reverse := 0
                speed := 0
                zeroRun := 0
                motion := .stopped
                reverseFree := true
                beganReversing := false
                windowTimer := some (s.clock + 160)
                nextStrobe := s.belt.count + BitVec.ofNat 32 (prof s).scanPitch }
            else { s.belt with nextStrobe := s.belt.count + BitVec.ofNat 32 (prof s).scanPitch })
        ∧ t.link
          = { s.link with
              state := .listening
              listeningTimer := some (s.clock + 20 * (prof s).heartbeatPeriod)
              consecutiveFailures := 0
              slots := []
              run := some 0
              frame := .idle
              txFrame := [] }
        ∧ t.engine
          = { s.engine with
              mode := if (prof s).quickOnly then .quick else .full
              returnCounter := 0
              tracks := []
              tableFull := false
              turn := .intake }
        ∧ t.intake = { s.intake with queue := [] }
        ∧ t.accept = { s.accept with general := [], urgent := [], overrun := false }
        ∧ t.members
          = { s.members with
              peers := Vector.replicate 16 Peer.empty
              expected := []
              adopted := (prof s).fallback }
        ∧ t.claim = { s.claim with ownClaims := [], dropNotices := [] }
        ∧ t.sched.entries = [] ∧ t.valves = { s.valves with recent := [] }
        ∧ t.chute = { s.chute with expectations := [], held := [] } ∧ t.air = s.air ∧ t.clock = s.clock)
    ∧ (∀ cause, s.port.station = .running → s.link.state = .silent cause →
      exec (.resumeLink []) s
        = .next
            { s with
              link.state := .listening
              link.listeningTimer := some (s.clock + 20 * (prof s).heartbeatPeriod)
              link.consecutiveFailures := 0
              port.response := [0, 0, 0] })
    ∧ ((s.port.station ≠ .running ∨ s.link.state = .offline ∨ s.link.state = .listening ∨ s.link.state = .active) →
      exec (.resumeLink []) s = .next { s with port.response := [1, 0, 0] })

/-- R23, R147, R168, R190: HALT in RUNNING leaves HALTING, the detections discarded, and the schedule empty of every entry
that belongs to a track; with no schedule entry nothing else changes. Elsewhere it is refused. The model's choices it rests
on: assumption log 19, 26. -/
def Obligations.HaltEntersHalting : Prop :=
  ∀ s : State, s.port.resetPending = false → s.port.resetHeld = false →
    (s.port.station ≠ .running → exec (.halt []) s = .next { s with port.response := [1, 0, 0] })
    ∧ (s.port.station = .running → BarInStep s → s.sched.entries = [] →
      exec (.halt []) s
        = .next
            { s with
              port.station := .halting
              port.response := [0, 0, 0]
              intake.queue := s.intake.queue.filter fun e => !isDetection e })
    ∧ (s.port.station = .running → (∀ e ∈ s.sched.entries, ∃ t ∈ s.engine.tracks, t.key = e.track) →
      ∃ t, exec (.halt []) s = .next t ∧ t.port.station = .halting ∧ t.port.response = [0, 0, 0]
        ∧ t.sched.entries = [] ∧ t.bar.drive = 0 ∧ t.belt = s.belt ∧ t.accept = s.accept
        ∧ t.members.peers = s.members.peers ∧ t.intake.queue = s.intake.queue.filter fun e => !isDetection e)

/-- R165, R172, R173, R190: an edit whose checks all pass takes effect as one change: each listed valve takes its
descriptor, one listed ACTIVE has its streak and mark cleared, an unlisted valve whose cover is retired is retired with it,
and OPEN entries lose the valves that left ACTIVE. A failed check leaves the map as it was, is counted, and is answered with
its reason and valve. The model's choices it rests on: assumption log 22, 26, 41. -/
def Obligations.EditsTakeEffectAsOneChange : Prop :=
  ∀ (s : State) (arg : List Byte), s.port.resetPending = false → s.port.resetHeld = false → s.port.station ≠ .unconfigured →
    ((u8 arg 0 = 0 ∨ 64 < u8 arg 0 ∨ arg.length ≠ 1 + 2 * u8 arg 0) →
      exec (.editValveMap arg) s = .next { s with port.response := [2, 0, 1, 1] })
    ∧ (1 ≤ u8 arg 0 → u8 arg 0 ≤ 64 → arg.length = 1 + 2 * u8 arg 0 →
      (∀ f, editFault (editPairs arg) s.valves.valve = some f →
        exec (.editValveMap arg) s
          = .next
              { s with
                valves.abortedEdits := bump s.valves.abortedEdits
                port.response :=
                  match f with
                  | .badValve v => [3, 0, 2, 0, byteOf v]
                  | .badCover v => [3, 0, 2, 1, byteOf v]
                  | .tableFull => [3, 0, 2, 2, 0]
                  | .doubleCover v => [3, 0, 2, 3, byteOf v]
                  | .repeated v => [3, 0, 2, 4, byteOf v] })
      ∧ (editFault (editPairs arg) s.valves.valve = none →
        ∃ t, exec (.editValveMap arg) s = .next t ∧ t.port = { s.port with response := [0, 0, 0] }
          ∧ t.valves.edits = bump s.valves.edits
          ∧ (∀ (v : Fin 64) (q : Nat × Nat), q ∈ editPairs arg → q.1 = v.val →
              t.valves.valve[v]
                = match q.2 with
                  | 0 => { s.valves.valve[v] with descriptor := .active, streak := 0, suspect := false }
                  | 1 => { s.valves.valve[v] with descriptor := .retired }
                  | 2 => { s.valves.valve[v] with descriptor := .coveredLeft }
                  | _ => { s.valves.valve[v] with descriptor := .coveredRight })
          ∧ (∀ v : Fin 64, (∀ q ∈ editPairs arg, q.1 ≠ v.val) →
              t.valves.valve[v]
                = if (s.valves.valve[v].descriptor = .coveredLeft ∧ (v.val - 1, 1) ∈ editPairs arg)
                    ∨ (s.valves.valve[v].descriptor = .coveredRight ∧ (v.val + 1, 1) ∈ editPairs arg) then
                    { s.valves.valve[v] with descriptor := .retired }
                  else s.valves.valve[v])
          ∧ (∀ left : ValveSet,
              (∀ v : Fin 64, left.getLsbD v = true ↔
                s.valves.valve[v].descriptor = .active ∧ t.valves.valve[v].descriptor ≠ .active) →
              t.sched.entries
                = s.sched.entries.map fun e => if e.state = .opened then { e with drive := e.drive &&& ~~~ left } else e)
          ∧ t.bar.drive = driveOf t ∧ t.engine = s.engine ∧ t.link = s.link ∧ t.belt = s.belt))

/-- R189, R201, R202, R203: the three report commands change nothing but the response, which is DONE with a block of the
length its rule gives: 148 bytes of status, 320 of peers and 397 of the valve map. The model's choices it rests on:
assumption log 26, 41. -/
def Obligations.ReadCommandsAnswerWithTheirBlock : Prop :=
  ∀ s : State, s.port.resetPending = false → s.port.resetHeld = false →
    exec (.readStatus []) s = .next { s with port.response := [0, 0, 148] ++ statusBlock s }
    ∧ (statusBlock s).length = 148
    ∧ exec (.readPeers []) s = .next { s with port.response := [0, 1, 64] ++ peersBlock s }
    ∧ (peersBlock s).length = 320
    ∧ exec (.readValveMap []) s = .next { s with port.response := [0, 1, 141] ++ valveBlock s }
    ∧ (valveBlock s).length = 397

/-- R196, R197, R198: READ OUTCOMES answers with the fill, the number of records returned and the oldest up to 4 records,
and changes nothing else. REMOVE OUTCOMES n removes the smaller of n and the fill of the oldest records, answers with that
number and the fill after, and clears OUTCOME_LOST, whatever n is. CLEAR EVENTS clears the flags its mask names, but for
OUTCOMES_READY, and answers with the flags after; SET EVENT MASK replaces bits 0 to 10 of the enable mask; the attention
line follows the flags and the mask at once. The model's choices it rests on: assumption log 24, 26, 41. -/
def Obligations.OutcomeAndEventCommandsAnswer : Prop :=
  ∀ (s : State) (hi lo : Byte), s.port.resetPending = false → s.port.resetHeld = false →
    (∃ t a b, exec (.clearEvents [hi, lo]) s = .next t
      ∧ t = { s with port.flags := s.port.flags &&& ~~~ (hi ++ lo), port.response := [0, 0, 2, a, b] }
      ∧ a ++ b = eventFlags t
      ∧ (eventFlags t).getLsbD 0
        = (match s.port.profile with
          | none => false
          | some p => decide (p.watermark ≤ s.port.outcomes.length)))
    ∧ (∃ t, exec (.setEventMask [hi, lo]) s = .next t
      ∧ t = { s with port.enableMask := t.port.enableMask, port.response := [0, 0, 0] }
      ∧ (∀ k : Fin 11, t.port.enableMask.getLsbD k = (hi ++ lo).getLsbD k)
      ∧ (attention t = true ↔ ∃ k : Fin 11, (eventFlags s).getLsbD k = true ∧ (hi ++ lo).getLsbD k = true))
    ∧ exec (.readOutcomes []) s
      = .next
          { s with
            port.response :=
              [0, 0, byteOf (2 + 13 * min 4 s.port.outcomes.length), byteOf s.port.outcomes.length,
                byteOf (min 4 s.port.outcomes.length)] ++ (s.port.outcomes.take 4).flatMap recordBytes }
    ∧ exec (.removeOutcomes [lo]) s
      = .next
          { s with
            port.outcomes := s.port.outcomes.drop (min lo.toNat s.port.outcomes.length)
            port.flags := s.port.flags &&& 0xFFFD#16
            port.response :=
              [0, 0, 2, byteOf (min lo.toNat s.port.outcomes.length),
                byteOf (s.port.outcomes.length - min lo.toNat s.port.outcomes.length)] }

/-- R189, R190, R191: a transaction's bytes are the code, the argument length and the argument, each of the thirteen codes
naming its command, and filler after them is ignored; one that ends before its frame is complete is abandoned, counted and
not answered. The code is judged first, then the state, then the length. RESET is answered DONE and marked for the release
of chip select, whose reset the next command finds made. While the RESET pin is asserted no command is taken, and zero bytes
follow a response. The model's choices it rests on: assumption log 3, 26, 28, 41. -/
def Obligations.PortTransactionsAreJudgedInOrder : Prop :=
  ∀ (s : State) (code : Byte) (arg filler : List Byte),
    (arg.length < 65536 →
      (∀ c ∈ [(1, Instr.loadProfile arg), (2, .start arg), (3, .halt arg), (4, .resumeLink arg), (5, .editValveMap arg),
          (6, .readValveMap arg), (7, .readStatus arg), (8, .readPeers arg), (9, .readOutcomes arg),
          (10, .removeOutcomes arg), (11, .clearEvents arg), (12, .setEventMask arg), (13, .reset arg)],
        transactionCommand
            (byteOf c.1 :: byteOf (arg.length / 256) :: byteOf arg.length :: (arg ++ filler))
          = c.2
        ∧ (s.port.resetHeld = true → exec c.2 s = .next s)
        ∧ (s.port.resetPending = true → s.port.resetHeld = false →
          ∃ u, exec (.stationReset .command) s = .next u ∧ exec c.2 s = exec c.2 u))
      ∧ (code = 0 ∨ 13 < code.toNat →
        transactionCommand (code :: byteOf (arg.length / 256) :: byteOf arg.length :: (arg ++ filler))
          = .badCommandCode code arg))
    ∧ (arg.length < 3 ∨ arg.length < 3 + (u8 arg 1 * 256 + u8 arg 2) →
      transactionCommand arg = .portTransactionAbandoned)
    ∧ (s.port.resetHeld = true →
      exec .portTransactionAbandoned s = .next s ∧ exec (.badCommandCode code arg) s = .next s)
    ∧ (∀ i, responseByte s i = if h : i < s.port.response.length then s.port.response[i] else 0)
    ∧ (s.port.resetPending = false → s.port.resetHeld = false →
      exec (.reset []) s = .next { s with port.resetPending := true, port.response := [0, 0, 0] }
      ∧ (code = 0 ∨ 13 < code.toNat →
        exec (.badCommandCode code arg) s = .next { s with port.response := [2, 0, 1, 0] })
      ∧ exec .portTransactionAbandoned s
        = .next { s with port.portErrors := bump s.port.portErrors, port.response := [] }
      ∧ (s.port.station ≠ .ready → s.port.station ≠ .halted →
        exec (.start arg) s = .next { s with port.response := [1, 0, 0] })
      ∧ (s.port.station ≠ .running → exec (.halt arg) s = .next { s with port.response := [1, 0, 0] })
      ∧ (s.port.station ≠ .running ∨ (∀ cause, s.link.state ≠ .silent cause) →
        exec (.resumeLink arg) s = .next { s with port.response := [1, 0, 0] })
      ∧ (s.port.station = .running ∨ s.port.station = .halting →
        exec (.loadProfile arg) s = .next { s with port.response := [1, 0, 0] })
      ∧ (s.port.station = .unconfigured → exec (.editValveMap arg) s = .next { s with port.response := [1, 0, 0] })
      ∧ (arg ≠ [] →
        ((s.port.station = .ready ∨ s.port.station = .halted) →
          exec (.start arg) s = .next { s with port.response := [2, 0, 1, 0] })
        ∧ (s.port.station = .running → exec (.halt arg) s = .next { s with port.response := [2, 0, 1, 0] })
        ∧ (∀ cause, s.port.station = .running → s.link.state = .silent cause →
          exec (.resumeLink arg) s = .next { s with port.response := [2, 0, 1, 0] })
        ∧ exec (.reset arg) s = .next { s with port.response := [2, 0, 1, 0] }
        ∧ exec (.readStatus arg) s = .next { s with port.response := [2, 0, 1, 0] }
        ∧ exec (.readPeers arg) s = .next { s with port.response := [2, 0, 1, 0] }
        ∧ exec (.readOutcomes arg) s = .next { s with port.response := [2, 0, 1, 0] }
        ∧ exec (.readValveMap arg) s = .next { s with port.response := [2, 0, 1, 0] })
      ∧ (arg.length ≠ 1 → exec (.removeOutcomes arg) s = .next { s with port.response := [2, 0, 1, 0] })
      ∧ (arg.length ≠ 2 →
        exec (.clearEvents arg) s = .next { s with port.response := [2, 0, 1, 0] }
        ∧ exec (.setEventMask arg) s = .next { s with port.response := [2, 0, 1, 0] }))

/-- R13, R15, R28, R191, R192, R198, R200: a station reset, at the RESET pin's assertion or, after a RESET taken, at the
release of chip select, keeps the belt unit but for its window timer, the profile, the enable mask, the own sequence number,
and the valves with their health; everything else is as power-on reset leaves it, but for the mode, the adopted set and the
record in reception, which is abandoned. The pin holds the station so until it is released, and a record begun meanwhile is
abandoned as well. The attention line is released wherever a held profile's outcome watermark is at least 1; that it is so
is kept by every step, since a load checks field 43 for 1 to 32, and holds after power-on reset. The model's choices it
rests on: assumption log 5, 25, 26, 28, 40. -/
def Obligations.StationResetKeepsProfileMaskAndValves : Prop :=
  WatermarkSet State.reset ∧ KeptByEveryStep WatermarkSet
    ∧ ∀ (s : State) (left : Reception), left = (if s.intake.reception = .idle then .idle else .abandoned) →
    (s.port.resetPending = false → exec (.stationReset .command) s = .next s)
    ∧ (s.port.resetHeld = true →
      exec (.stationReset .pinAsserted) s = .next s
      ∧ exec (.stationReset .pinReleased) s = .next { s with intake.reception := left, port.resetHeld := false })
    ∧ (s.port.resetHeld = false → exec (.stationReset .pinReleased) s = .next s)
    ∧ ∀ cause, (cause = .pinAsserted ∧ s.port.resetHeld = false ∨ cause = .command ∧ s.port.resetPending = true) →
      ∃ t, exec (.stationReset cause) s = .next t
        ∧ t.belt = { s.belt with windowTimer := none } ∧ t.clock = s.clock ∧ t.pending = s.pending
        ∧ t.port
          = { station := if s.port.profile.isSome then .ready else .unconfigured
              profile := s.port.profile
              outcomes := []
              lostOutcomes := 0
              portErrors := 0
              flags := 0
              enableMask := s.port.enableMask
              response := []
              resetPending := false
              resetHeld := s.port.resetHeld || decide (cause = .pinAsserted) }
        ∧ (WatermarkSet s → attention t = false)
        ∧ t.intake = { Intake.reset with reception := left }
        ∧ t.engine
          = { Engine.reset with
              mode := if (prof s).quickOnly then .quick else .full
              ownSequence := s.engine.ownSequence }
        ∧ t.link = Link.reset ∧ t.accept = Accept.reset ∧ t.claim = Claim.reset
        ∧ t.members = { Members.reset with adopted := (prof s).fallback }
        ∧ t.sched = Sched.reset ∧ t.chute = Chute.reset
        ∧ t.valves = { ValveMap.reset with valve := s.valves.valve }
        ∧ t.air = { Air.reset with pressureOk := s.air.pressureOk }
        ∧ t.bar.drive = 0 ∧ t.bar.pilot = false
        ∧ (s.bar.transfer = none → t.bar.transfer = some (transferBytes 0 false) ∧ t.bar.again = false)
        ∧ (s.bar.transfer ≠ none → t.bar.transfer = s.bar.transfer ∧ t.bar.again = true)

/-- R12, R28, R179, R199: power-on reset leaves the station UNCONFIGURED with no profile, an empty outcome queue, no flag
and an empty mask, every valve ACTIVE with no health record, the belt count 0 and the motion STOPPED, and the link OFFLINE.
The waiting commands and the levels of the pressure-ok line and the RESET pin are outside the part and stay; a record in
reception is abandoned. That the all-closed transfer alone is then in progress and none further is wanted, whatever transfer
was in progress before, is the model's choice (assumption log 25). The model's choices it rests on: assumption log 1, 5, 25,
28, 40. -/
def Obligations.PowerOnResetClearsThePart : Prop :=
  ∀ (s : State) (left : Reception), left = (if s.intake.reception = .idle then .idle else .abandoned) →
    ∃ t, exec .powerOnReset s = .next t ∧ t.pending = s.pending ∧ t.air.pressureOk = s.air.pressureOk
      ∧ t.port.resetHeld = s.port.resetHeld ∧ t.intake.reception = left
      ∧ t.port.station = .unconfigured ∧ t.port.profile = none ∧ t.port.outcomes = [] ∧ eventFlags t = 0
      ∧ t.port.enableMask = 0 ∧ attention t = false ∧ t.port.lostOutcomes = 0 ∧ t.port.portErrors = 0
      ∧ t.belt.count = 0 ∧ t.belt.windowList = #v[0, 0, 0, 0] ∧ t.belt.forward = 0 ∧ t.belt.reverse = 0
      ∧ t.belt.reverseFree = true ∧ t.belt.speed = 0 ∧ t.belt.zeroRun = 0 ∧ t.belt.motion = .stopped
      ∧ t.belt.windowTimer = none ∧ t.belt.scanNumber = 0 ∧ t.belt.ring = [] ∧ t.belt.nextStrobe = 0
      ∧ t.belt.strobeWord = none ∧ t.belt.frameLatch = 0
      ∧ (∀ v : Fin 64, t.valves.valve[v] = ⟨.active, false, 0, 0⟩) ∧ t.valves.recent = []
      ∧ t.link.state = .offline ∧ t.link.slots = [] ∧ t.link.requiredUrgent = 12 ∧ t.link.requiredNormal = 14
      ∧ t.link.requiredRoutine = 16 ∧ t.engine.mode = .full ∧ t.engine.returnCounter = 0 ∧ t.engine.ownSequence = 0
      ∧ t.engine.tracks = [] ∧ t.air.supply = .standby
      ∧ t
        = { State.reset with
            pending := s.pending
            intake.reception := left
            air.pressureOk := s.air.pressureOk
            port.resetHeld := s.port.resetHeld }

/-! ### What holds at every moment -/

/-- Every step keeps each queue, table and list that a rule bounds on its own within its capacity, the contributor lists and
the acceptance list among them (R10, R20, R32, R93, R104, R107, R135, R149, R177, R184, R185, R195). The own-claim list's
bound follows from the slots and the urgent queue (R131), and is no part of this. -/
def Obligations.CapacitiesAreNeverExceeded : Prop := KeptByEveryStep WithinCapacity

/-- Only an encoder edge and power-on reset move the belt count (R1, R13). -/
def Obligations.OnlyEncoderEdgesMoveTheBeltCount : Prop :=
  ∀ (c : Instr) (s t : State), exec c s = .next t → c ≠ .powerOnReset →
    t.belt.count = s.belt.count ∨ (c = .encoderEdge .forward ∧ t.belt.count = s.belt.count + 1)
      ∨ (c = .encoderEdge .reverse ∧ t.belt.count = s.belt.count - 1)

/-- The state after power-on reset meets every invariant that has a statement of its own above; that it meets the
watermark's is a clause of StationResetKeepsProfileMaskAndValves. -/
def Obligations.ResetStateMeetsTheInvariants : Prop :=
  BarInStep State.reset ∧ DrivesActive State.reset ∧ OpensOnAir State.reset ∧ MapLawful State.reset
    ∧ WithinCapacity State.reset ∧ TableLawful State.reset ∧ InTableOrder State.reset ∧ PlenumLawful State.reset
    ∧ DrivesWhenActive State.reset
end

