-- ==== Sys2Proof/Laws/State.lean ====
section
/-! SUPPORT. What each plain update of State leaves alone, block by block, so that no proof unfolds a record update. -/

namespace Sys2Proof.Machine

@[simp] theorem clockTo_frame (t : Nat) (s : State) :
    (clockTo t s).belt = s.belt ∧ (clockTo t s).intake = s.intake ∧ (clockTo t s).engine = s.engine ∧
      (clockTo t s).link = s.link ∧ (clockTo t s).accept = s.accept ∧ (clockTo t s).members = s.members ∧
      (clockTo t s).claim = s.claim ∧ (clockTo t s).sched = s.sched ∧ (clockTo t s).bar = s.bar ∧
      (clockTo t s).valves = s.valves ∧ (clockTo t s).air = s.air ∧ (clockTo t s).chute = s.chute ∧
      (clockTo t s).port = s.port ∧ (clockTo t s).pending = s.pending :=
  ⟨rfl, rfl, rfl, rfl, rfl, rfl, rfl, rfl, rfl, rfl, rfl, rfl, rfl, rfl⟩

@[simp] theorem raiseFlag_frame (f : Flag) (s : State) :
    (raiseFlag f s).clock = s.clock ∧ (raiseFlag f s).belt = s.belt ∧ (raiseFlag f s).intake = s.intake ∧
      (raiseFlag f s).engine = s.engine ∧ (raiseFlag f s).link = s.link ∧ (raiseFlag f s).accept = s.accept ∧
      (raiseFlag f s).members = s.members ∧ (raiseFlag f s).claim = s.claim ∧ (raiseFlag f s).sched = s.sched ∧
      (raiseFlag f s).bar = s.bar ∧ (raiseFlag f s).valves = s.valves ∧ (raiseFlag f s).air = s.air ∧
      (raiseFlag f s).chute = s.chute ∧ (raiseFlag f s).pending = s.pending :=
  ⟨rfl, rfl, rfl, rfl, rfl, rfl, rfl, rfl, rfl, rfl, rfl, rfl, rfl, rfl⟩

@[simp] theorem clearFlag_frame (f : Flag) (s : State) :
    (clearFlag f s).clock = s.clock ∧ (clearFlag f s).belt = s.belt ∧ (clearFlag f s).intake = s.intake ∧
      (clearFlag f s).engine = s.engine ∧ (clearFlag f s).link = s.link ∧ (clearFlag f s).accept = s.accept ∧
      (clearFlag f s).members = s.members ∧ (clearFlag f s).claim = s.claim ∧ (clearFlag f s).sched = s.sched ∧
      (clearFlag f s).bar = s.bar ∧ (clearFlag f s).valves = s.valves ∧ (clearFlag f s).air = s.air ∧
      (clearFlag f s).chute = s.chute ∧ (clearFlag f s).pending = s.pending :=
  ⟨rfl, rfl, rfl, rfl, rfl, rfl, rfl, rfl, rfl, rfl, rfl, rfl, rfl, rfl⟩

@[simp] theorem modifyTrack_frame (key : Nat) (f : Track → Track) (s : State) :
    (modifyTrack key f s).clock = s.clock ∧ (modifyTrack key f s).belt = s.belt ∧
      (modifyTrack key f s).intake = s.intake ∧ (modifyTrack key f s).link = s.link ∧
      (modifyTrack key f s).accept = s.accept ∧ (modifyTrack key f s).members = s.members ∧
      (modifyTrack key f s).claim = s.claim ∧ (modifyTrack key f s).sched = s.sched ∧
      (modifyTrack key f s).bar = s.bar ∧ (modifyTrack key f s).valves = s.valves ∧
      (modifyTrack key f s).air = s.air ∧ (modifyTrack key f s).chute = s.chute ∧
      (modifyTrack key f s).port = s.port ∧ (modifyTrack key f s).pending = s.pending :=
  ⟨rfl, rfl, rfl, rfl, rfl, rfl, rfl, rfl, rfl, rfl, rfl, rfl, rfl, rfl⟩

@[simp] theorem removeTrack_frame (key : Nat) (s : State) :
    (removeTrack key s).clock = s.clock ∧ (removeTrack key s).belt = s.belt ∧ (removeTrack key s).intake = s.intake ∧
      (removeTrack key s).link = s.link ∧ (removeTrack key s).accept = s.accept ∧
      (removeTrack key s).members = s.members ∧ (removeTrack key s).claim = s.claim ∧
      (removeTrack key s).sched = s.sched ∧ (removeTrack key s).bar = s.bar ∧ (removeTrack key s).valves = s.valves ∧
      (removeTrack key s).air = s.air ∧ (removeTrack key s).chute = s.chute ∧ (removeTrack key s).port = s.port ∧
      (removeTrack key s).pending = s.pending :=
  ⟨rfl, rfl, rfl, rfl, rfl, rfl, rfl, rfl, rfl, rfl, rfl, rfl, rfl, rfl⟩

@[simp] theorem setOwn_frame (key : Nat) (o : OwnState) (s : State) :
    (setOwn key o s).clock = s.clock ∧ (setOwn key o s).belt = s.belt ∧ (setOwn key o s).intake = s.intake ∧
      (setOwn key o s).link = s.link ∧ (setOwn key o s).accept = s.accept ∧ (setOwn key o s).members = s.members ∧
      (setOwn key o s).claim = s.claim ∧ (setOwn key o s).sched = s.sched ∧ (setOwn key o s).bar = s.bar ∧
      (setOwn key o s).valves = s.valves ∧ (setOwn key o s).air = s.air ∧ (setOwn key o s).chute = s.chute ∧
      (setOwn key o s).port = s.port ∧ (setOwn key o s).pending = s.pending :=
  ⟨rfl, rfl, rfl, rfl, rfl, rfl, rfl, rfl, rfl, rfl, rfl, rfl, rfl, rfl⟩

@[simp] theorem modeToQuick_frame (s : State) :
    (modeToQuick s).clock = s.clock ∧ (modeToQuick s).belt = s.belt ∧ (modeToQuick s).intake = s.intake ∧
      (modeToQuick s).link = s.link ∧ (modeToQuick s).accept = s.accept ∧ (modeToQuick s).members = s.members ∧
      (modeToQuick s).claim = s.claim ∧ (modeToQuick s).sched = s.sched ∧ (modeToQuick s).bar = s.bar ∧
      (modeToQuick s).valves = s.valves ∧ (modeToQuick s).air = s.air ∧ (modeToQuick s).chute = s.chute ∧
      (modeToQuick s).port = s.port ∧ (modeToQuick s).pending = s.pending :=
  ⟨rfl, rfl, rfl, rfl, rfl, rfl, rfl, rfl, rfl, rfl, rfl, rfl, rfl, rfl⟩

@[simp] theorem modeFromProfile_frame (p : Profile) (s : State) :
    (modeFromProfile p s).clock = s.clock ∧ (modeFromProfile p s).belt = s.belt ∧
      (modeFromProfile p s).intake = s.intake ∧ (modeFromProfile p s).link = s.link ∧
      (modeFromProfile p s).accept = s.accept ∧ (modeFromProfile p s).members = s.members ∧
      (modeFromProfile p s).claim = s.claim ∧ (modeFromProfile p s).sched = s.sched ∧
      (modeFromProfile p s).bar = s.bar ∧ (modeFromProfile p s).valves = s.valves ∧
      (modeFromProfile p s).air = s.air ∧ (modeFromProfile p s).chute = s.chute ∧
      (modeFromProfile p s).port = s.port ∧ (modeFromProfile p s).pending = s.pending :=
  ⟨rfl, rfl, rfl, rfl, rfl, rfl, rfl, rfl, rfl, rfl, rfl, rfl, rfl, rfl⟩

@[simp] theorem removeSlot_frame (handle : Nat) (s : State) :
    (removeSlot handle s).clock = s.clock ∧ (removeSlot handle s).belt = s.belt ∧
      (removeSlot handle s).intake = s.intake ∧ (removeSlot handle s).engine = s.engine ∧
      (removeSlot handle s).accept = s.accept ∧ (removeSlot handle s).members = s.members ∧
      (removeSlot handle s).claim = s.claim ∧ (removeSlot handle s).sched = s.sched ∧
      (removeSlot handle s).bar = s.bar ∧ (removeSlot handle s).valves = s.valves ∧
      (removeSlot handle s).air = s.air ∧ (removeSlot handle s).chute = s.chute ∧
      (removeSlot handle s).port = s.port ∧ (removeSlot handle s).pending = s.pending :=
  ⟨rfl, rfl, rfl, rfl, rfl, rfl, rfl, rfl, rfl, rfl, rfl, rfl, rfl, rfl⟩

@[simp] theorem modifySlot_frame (handle : Nat) (f : Slot → Slot) (s : State) :
    (modifySlot handle f s).clock = s.clock ∧ (modifySlot handle f s).belt = s.belt ∧
      (modifySlot handle f s).intake = s.intake ∧ (modifySlot handle f s).engine = s.engine ∧
      (modifySlot handle f s).accept = s.accept ∧ (modifySlot handle f s).members = s.members ∧
      (modifySlot handle f s).claim = s.claim ∧ (modifySlot handle f s).sched = s.sched ∧
      (modifySlot handle f s).bar = s.bar ∧ (modifySlot handle f s).valves = s.valves ∧
      (modifySlot handle f s).air = s.air ∧ (modifySlot handle f s).chute = s.chute ∧
      (modifySlot handle f s).port = s.port ∧ (modifySlot handle f s).pending = s.pending :=
  ⟨rfl, rfl, rfl, rfl, rfl, rfl, rfl, rfl, rfl, rfl, rfl, rfl, rfl, rfl⟩

@[simp] theorem countDeparture_frame (t : Track) (s : State) :
    (countDeparture t s).clock = s.clock ∧ (countDeparture t s).belt = s.belt ∧
      (countDeparture t s).intake = s.intake ∧ (countDeparture t s).link = s.link ∧
      (countDeparture t s).accept = s.accept ∧ (countDeparture t s).members = s.members ∧
      (countDeparture t s).claim = s.claim ∧ (countDeparture t s).sched = s.sched ∧
      (countDeparture t s).bar = s.bar ∧ (countDeparture t s).valves = s.valves ∧ (countDeparture t s).air = s.air ∧
      (countDeparture t s).chute = s.chute ∧ (countDeparture t s).port = s.port ∧
      (countDeparture t s).pending = s.pending :=
  ⟨rfl, rfl, rfl, rfl, rfl, rfl, rfl, rfl, rfl, rfl, rfl, rfl, rfl, rfl⟩

@[simp] theorem orphanRecords_frame (t : Track) (s : State) :
    (orphanRecords t s).clock = s.clock ∧ (orphanRecords t s).belt = s.belt ∧ (orphanRecords t s).intake = s.intake ∧
      (orphanRecords t s).engine = s.engine ∧ (orphanRecords t s).link = s.link ∧
      (orphanRecords t s).accept = s.accept ∧ (orphanRecords t s).members = s.members ∧
      (orphanRecords t s).sched = s.sched ∧ (orphanRecords t s).bar = s.bar ∧ (orphanRecords t s).valves = s.valves ∧
      (orphanRecords t s).air = s.air ∧ (orphanRecords t s).chute = s.chute ∧ (orphanRecords t s).port = s.port ∧
      (orphanRecords t s).pending = s.pending :=
  ⟨rfl, rfl, rfl, rfl, rfl, rfl, rfl, rfl, rfl, rfl, rfl, rfl, rfl, rfl⟩

@[simp] theorem countUnsent_frame (s : State) :
    (countUnsent s).clock = s.clock ∧ (countUnsent s).belt = s.belt ∧ (countUnsent s).intake = s.intake ∧
      (countUnsent s).engine = s.engine ∧ (countUnsent s).link = s.link ∧ (countUnsent s).accept = s.accept ∧
      (countUnsent s).members = s.members ∧ (countUnsent s).sched = s.sched ∧ (countUnsent s).bar = s.bar ∧
      (countUnsent s).valves = s.valves ∧ (countUnsent s).air = s.air ∧ (countUnsent s).chute = s.chute ∧
      (countUnsent s).port = s.port ∧ (countUnsent s).pending = s.pending :=
  ⟨rfl, rfl, rfl, rfl, rfl, rfl, rfl, rfl, rfl, rfl, rfl, rfl, rfl, rfl⟩

@[simp] theorem removeEntry_frame (key : Nat) (s : State) :
    (removeEntry key s).clock = s.clock ∧ (removeEntry key s).belt = s.belt ∧ (removeEntry key s).intake = s.intake ∧
      (removeEntry key s).engine = s.engine ∧ (removeEntry key s).link = s.link ∧
      (removeEntry key s).accept = s.accept ∧ (removeEntry key s).members = s.members ∧
      (removeEntry key s).claim = s.claim ∧ (removeEntry key s).bar = s.bar ∧ (removeEntry key s).valves = s.valves ∧
      (removeEntry key s).air = s.air ∧ (removeEntry key s).chute = s.chute ∧ (removeEntry key s).port = s.port ∧
      (removeEntry key s).pending = s.pending :=
  ⟨rfl, rfl, rfl, rfl, rfl, rfl, rfl, rfl, rfl, rfl, rfl, rfl, rfl, rfl⟩

@[simp] theorem setEntry_frame (e : Entry) (s : State) :
    (setEntry e s).clock = s.clock ∧ (setEntry e s).belt = s.belt ∧ (setEntry e s).intake = s.intake ∧
      (setEntry e s).engine = s.engine ∧ (setEntry e s).link = s.link ∧ (setEntry e s).accept = s.accept ∧
      (setEntry e s).members = s.members ∧ (setEntry e s).claim = s.claim ∧ (setEntry e s).bar = s.bar ∧
      (setEntry e s).valves = s.valves ∧ (setEntry e s).air = s.air ∧ (setEntry e s).chute = s.chute ∧
      (setEntry e s).port = s.port ∧ (setEntry e s).pending = s.pending :=
  ⟨rfl, rfl, rfl, rfl, rfl, rfl, rfl, rfl, rfl, rfl, rfl, rfl, rfl, rfl⟩

@[simp] theorem armEntry_frame (key : Nat) (s : State) :
    (armEntry key s).clock = s.clock ∧ (armEntry key s).belt = s.belt ∧ (armEntry key s).intake = s.intake ∧
      (armEntry key s).engine = s.engine ∧ (armEntry key s).link = s.link ∧ (armEntry key s).accept = s.accept ∧
      (armEntry key s).members = s.members ∧ (armEntry key s).claim = s.claim ∧ (armEntry key s).bar = s.bar ∧
      (armEntry key s).valves = s.valves ∧ (armEntry key s).air = s.air ∧ (armEntry key s).chute = s.chute ∧
      (armEntry key s).port = s.port ∧ (armEntry key s).pending = s.pending :=
  ⟨rfl, rfl, rfl, rfl, rfl, rfl, rfl, rfl, rfl, rfl, rfl, rfl, rfl, rfl⟩

@[simp] theorem modifyRecord_frame (handle : Nat) (f : OwnClaim → OwnClaim) (s : State) :
    (modifyRecord handle f s).clock = s.clock ∧ (modifyRecord handle f s).belt = s.belt ∧
      (modifyRecord handle f s).intake = s.intake ∧ (modifyRecord handle f s).engine = s.engine ∧
      (modifyRecord handle f s).link = s.link ∧ (modifyRecord handle f s).accept = s.accept ∧
      (modifyRecord handle f s).members = s.members ∧ (modifyRecord handle f s).sched = s.sched ∧
      (modifyRecord handle f s).bar = s.bar ∧ (modifyRecord handle f s).valves = s.valves ∧
      (modifyRecord handle f s).air = s.air ∧ (modifyRecord handle f s).chute = s.chute ∧
      (modifyRecord handle f s).port = s.port ∧ (modifyRecord handle f s).pending = s.pending :=
  ⟨rfl, rfl, rfl, rfl, rfl, rfl, rfl, rfl, rfl, rfl, rfl, rfl, rfl, rfl⟩

@[simp] theorem removeRecord_frame (handle : Nat) (s : State) :
    (removeRecord handle s).clock = s.clock ∧ (removeRecord handle s).belt = s.belt ∧
      (removeRecord handle s).intake = s.intake ∧ (removeRecord handle s).engine = s.engine ∧
      (removeRecord handle s).link = s.link ∧ (removeRecord handle s).accept = s.accept ∧
      (removeRecord handle s).members = s.members ∧ (removeRecord handle s).sched = s.sched ∧
      (removeRecord handle s).bar = s.bar ∧ (removeRecord handle s).valves = s.valves ∧
      (removeRecord handle s).air = s.air ∧ (removeRecord handle s).chute = s.chute ∧
      (removeRecord handle s).port = s.port ∧ (removeRecord handle s).pending = s.pending :=
  ⟨rfl, rfl, rfl, rfl, rfl, rfl, rfl, rfl, rfl, rfl, rfl, rfl, rfl, rfl⟩

@[simp] theorem countUnknownId_frame (s : State) :
    (countUnknownId s).clock = s.clock ∧ (countUnknownId s).belt = s.belt ∧ (countUnknownId s).intake = s.intake ∧
      (countUnknownId s).engine = s.engine ∧ (countUnknownId s).link = s.link ∧
      (countUnknownId s).accept = s.accept ∧ (countUnknownId s).members = s.members ∧
      (countUnknownId s).sched = s.sched ∧ (countUnknownId s).bar = s.bar ∧ (countUnknownId s).valves = s.valves ∧
      (countUnknownId s).air = s.air ∧ (countUnknownId s).chute = s.chute ∧ (countUnknownId s).port = s.port ∧
      (countUnknownId s).pending = s.pending :=
  ⟨rfl, rfl, rfl, rfl, rfl, rfl, rfl, rfl, rfl, rfl, rfl, rfl, rfl, rfl⟩

@[simp] theorem countIgnored_frame (s : State) :
    (countIgnored s).clock = s.clock ∧ (countIgnored s).belt = s.belt ∧ (countIgnored s).intake = s.intake ∧
      (countIgnored s).engine = s.engine ∧ (countIgnored s).link = s.link ∧ (countIgnored s).accept = s.accept ∧
      (countIgnored s).members = s.members ∧ (countIgnored s).sched = s.sched ∧ (countIgnored s).bar = s.bar ∧
      (countIgnored s).valves = s.valves ∧ (countIgnored s).air = s.air ∧ (countIgnored s).chute = s.chute ∧
      (countIgnored s).port = s.port ∧ (countIgnored s).pending = s.pending :=
  ⟨rfl, rfl, rfl, rfl, rfl, rfl, rfl, rfl, rfl, rfl, rfl, rfl, rfl, rfl⟩

@[simp] theorem urgentRest_frame (rest : List QueueEntry) (s : State) :
    (urgentRest rest s).clock = s.clock ∧ (urgentRest rest s).belt = s.belt ∧ (urgentRest rest s).intake = s.intake ∧
      (urgentRest rest s).engine = s.engine ∧ (urgentRest rest s).link = s.link ∧
      (urgentRest rest s).members = s.members ∧ (urgentRest rest s).claim = s.claim ∧
      (urgentRest rest s).sched = s.sched ∧ (urgentRest rest s).bar = s.bar ∧ (urgentRest rest s).valves = s.valves ∧
      (urgentRest rest s).air = s.air ∧ (urgentRest rest s).chute = s.chute ∧ (urgentRest rest s).port = s.port ∧
      (urgentRest rest s).pending = s.pending :=
  ⟨rfl, rfl, rfl, rfl, rfl, rfl, rfl, rfl, rfl, rfl, rfl, rfl, rfl, rfl⟩

@[simp] theorem setPeer_frame (n : Node) (p : Peer) (s : State) :
    (setPeer n p s).clock = s.clock ∧ (setPeer n p s).belt = s.belt ∧ (setPeer n p s).intake = s.intake ∧
      (setPeer n p s).engine = s.engine ∧ (setPeer n p s).link = s.link ∧ (setPeer n p s).accept = s.accept ∧
      (setPeer n p s).claim = s.claim ∧ (setPeer n p s).sched = s.sched ∧ (setPeer n p s).bar = s.bar ∧
      (setPeer n p s).valves = s.valves ∧ (setPeer n p s).air = s.air ∧ (setPeer n p s).chute = s.chute ∧
      (setPeer n p s).port = s.port ∧ (setPeer n p s).pending = s.pending :=
  ⟨rfl, rfl, rfl, rfl, rfl, rfl, rfl, rfl, rfl, rfl, rfl, rfl, rfl, rfl⟩

@[simp] theorem recomputeSets_frame (s : State) :
    (recomputeSets s).clock = s.clock ∧ (recomputeSets s).belt = s.belt ∧ (recomputeSets s).intake = s.intake ∧
      (recomputeSets s).engine = s.engine ∧ (recomputeSets s).link = s.link ∧ (recomputeSets s).accept = s.accept ∧
      (recomputeSets s).claim = s.claim ∧ (recomputeSets s).sched = s.sched ∧ (recomputeSets s).bar = s.bar ∧
      (recomputeSets s).valves = s.valves ∧ (recomputeSets s).air = s.air ∧ (recomputeSets s).chute = s.chute ∧
      (recomputeSets s).port = s.port ∧ (recomputeSets s).pending = s.pending :=
  ⟨rfl, rfl, rfl, rfl, rfl, rfl, rfl, rfl, rfl, rfl, rfl, rfl, rfl, rfl⟩

@[simp] theorem emptyTable_frame (s : State) :
    (emptyTable s).clock = s.clock ∧ (emptyTable s).belt = s.belt ∧ (emptyTable s).intake = s.intake ∧
      (emptyTable s).engine = s.engine ∧ (emptyTable s).link = s.link ∧ (emptyTable s).accept = s.accept ∧
      (emptyTable s).claim = s.claim ∧ (emptyTable s).sched = s.sched ∧ (emptyTable s).bar = s.bar ∧
      (emptyTable s).valves = s.valves ∧ (emptyTable s).air = s.air ∧ (emptyTable s).chute = s.chute ∧
      (emptyTable s).port = s.port ∧ (emptyTable s).pending = s.pending :=
  ⟨rfl, rfl, rfl, rfl, rfl, rfl, rfl, rfl, rfl, rfl, rfl, rfl, rfl, rfl⟩

@[simp] theorem heartbeatFrom_frame (t : Nat) (s : State) :
    (heartbeatFrom t s).clock = s.clock ∧ (heartbeatFrom t s).belt = s.belt ∧ (heartbeatFrom t s).intake = s.intake ∧
      (heartbeatFrom t s).engine = s.engine ∧ (heartbeatFrom t s).link = s.link ∧
      (heartbeatFrom t s).accept = s.accept ∧ (heartbeatFrom t s).claim = s.claim ∧
      (heartbeatFrom t s).sched = s.sched ∧ (heartbeatFrom t s).bar = s.bar ∧ (heartbeatFrom t s).valves = s.valves ∧
      (heartbeatFrom t s).air = s.air ∧ (heartbeatFrom t s).chute = s.chute ∧ (heartbeatFrom t s).port = s.port ∧
      (heartbeatFrom t s).pending = s.pending :=
  ⟨rfl, rfl, rfl, rfl, rfl, rfl, rfl, rfl, rfl, rfl, rfl, rfl, rfl, rfl⟩

@[simp] theorem observeRun_frame (run : Nat) (s : State) :
    (observeRun run s).clock = s.clock ∧ (observeRun run s).belt = s.belt ∧ (observeRun run s).intake = s.intake ∧
      (observeRun run s).engine = s.engine ∧ (observeRun run s).accept = s.accept ∧
      (observeRun run s).members = s.members ∧ (observeRun run s).claim = s.claim ∧
      (observeRun run s).sched = s.sched ∧ (observeRun run s).bar = s.bar ∧ (observeRun run s).valves = s.valves ∧
      (observeRun run s).air = s.air ∧ (observeRun run s).chute = s.chute ∧ (observeRun run s).port = s.port ∧
      (observeRun run s).pending = s.pending :=
  ⟨rfl, rfl, rfl, rfl, rfl, rfl, rfl, rfl, rfl, rfl, rfl, rfl, rfl, rfl⟩

@[simp] theorem frameOver_frame (run : Nat) (s : State) :
    (frameOver run s).clock = s.clock ∧ (frameOver run s).belt = s.belt ∧ (frameOver run s).intake = s.intake ∧
      (frameOver run s).engine = s.engine ∧ (frameOver run s).accept = s.accept ∧
      (frameOver run s).members = s.members ∧ (frameOver run s).claim = s.claim ∧ (frameOver run s).sched = s.sched ∧
      (frameOver run s).bar = s.bar ∧ (frameOver run s).valves = s.valves ∧ (frameOver run s).air = s.air ∧
      (frameOver run s).chute = s.chute ∧ (frameOver run s).port = s.port ∧ (frameOver run s).pending = s.pending :=
  ⟨rfl, rfl, rfl, rfl, rfl, rfl, rfl, rfl, rfl, rfl, rfl, rfl, rfl, rfl⟩

@[simp] theorem installMap_frame (m : Vector Valve 64) (s : State) :
    (installMap m s).clock = s.clock ∧ (installMap m s).belt = s.belt ∧ (installMap m s).intake = s.intake ∧
      (installMap m s).engine = s.engine ∧ (installMap m s).link = s.link ∧ (installMap m s).accept = s.accept ∧
      (installMap m s).members = s.members ∧ (installMap m s).claim = s.claim ∧ (installMap m s).bar = s.bar ∧
      (installMap m s).air = s.air ∧ (installMap m s).chute = s.chute ∧ (installMap m s).port = s.port ∧
      (installMap m s).pending = s.pending :=
  ⟨rfl, rfl, rfl, rfl, rfl, rfl, rfl, rfl, rfl, rfl, rfl, rfl, rfl⟩

@[simp] theorem countStray_frame (s : State) :
    (countStray s).clock = s.clock ∧ (countStray s).belt = s.belt ∧ (countStray s).intake = s.intake ∧
      (countStray s).engine = s.engine ∧ (countStray s).link = s.link ∧ (countStray s).accept = s.accept ∧
      (countStray s).members = s.members ∧ (countStray s).claim = s.claim ∧ (countStray s).sched = s.sched ∧
      (countStray s).bar = s.bar ∧ (countStray s).valves = s.valves ∧ (countStray s).air = s.air ∧
      (countStray s).port = s.port ∧ (countStray s).pending = s.pending :=
  ⟨rfl, rfl, rfl, rfl, rfl, rfl, rfl, rfl, rfl, rfl, rfl, rfl, rfl, rfl⟩

@[simp] theorem countConfirmUnsent_frame (s : State) :
    (countConfirmUnsent s).clock = s.clock ∧ (countConfirmUnsent s).belt = s.belt ∧
      (countConfirmUnsent s).intake = s.intake ∧ (countConfirmUnsent s).engine = s.engine ∧
      (countConfirmUnsent s).link = s.link ∧ (countConfirmUnsent s).accept = s.accept ∧
      (countConfirmUnsent s).members = s.members ∧ (countConfirmUnsent s).claim = s.claim ∧
      (countConfirmUnsent s).sched = s.sched ∧ (countConfirmUnsent s).bar = s.bar ∧
      (countConfirmUnsent s).valves = s.valves ∧ (countConfirmUnsent s).air = s.air ∧
      (countConfirmUnsent s).port = s.port ∧ (countConfirmUnsent s).pending = s.pending :=
  ⟨rfl, rfl, rfl, rfl, rfl, rfl, rfl, rfl, rfl, rfl, rfl, rfl, rfl, rfl⟩

@[simp] theorem listen_frame (s : State) :
    (listen s).clock = s.clock ∧ (listen s).belt = s.belt ∧ (listen s).intake = s.intake ∧
      (listen s).engine = s.engine ∧ (listen s).accept = s.accept ∧ (listen s).members = s.members ∧
      (listen s).claim = s.claim ∧ (listen s).sched = s.sched ∧ (listen s).bar = s.bar ∧
      (listen s).valves = s.valves ∧ (listen s).air = s.air ∧ (listen s).chute = s.chute ∧ (listen s).port = s.port ∧
      (listen s).pending = s.pending :=
  ⟨rfl, rfl, rfl, rfl, rfl, rfl, rfl, rfl, rfl, rfl, rfl, rfl, rfl, rfl⟩

@[simp] theorem emptyLists_frame (s : State) :
    (emptyLists s).clock = s.clock ∧ (emptyLists s).belt = s.belt ∧ (emptyLists s).link = s.link ∧
      (emptyLists s).members = s.members ∧ (emptyLists s).bar = s.bar ∧ (emptyLists s).valves = s.valves ∧
      (emptyLists s).air = s.air ∧ (emptyLists s).port = s.port ∧ (emptyLists s).pending = s.pending :=
  ⟨rfl, rfl, rfl, rfl, rfl, rfl, rfl, rfl, rfl⟩

@[simp] theorem respond_frame (frame : List Byte) (s : State) :
    (respond frame s).clock = s.clock ∧ (respond frame s).belt = s.belt ∧ (respond frame s).intake = s.intake ∧
      (respond frame s).engine = s.engine ∧ (respond frame s).link = s.link ∧ (respond frame s).accept = s.accept ∧
      (respond frame s).members = s.members ∧ (respond frame s).claim = s.claim ∧ (respond frame s).sched = s.sched ∧
      (respond frame s).bar = s.bar ∧ (respond frame s).valves = s.valves ∧ (respond frame s).air = s.air ∧
      (respond frame s).chute = s.chute ∧ (respond frame s).pending = s.pending :=
  ⟨rfl, rfl, rfl, rfl, rfl, rfl, rfl, rfl, rfl, rfl, rfl, rfl, rfl, rfl⟩

@[simp] theorem clearMasked_frame (mask : BitVec 16) (s : State) :
    (clearMasked mask s).clock = s.clock ∧ (clearMasked mask s).belt = s.belt ∧
      (clearMasked mask s).intake = s.intake ∧ (clearMasked mask s).engine = s.engine ∧
      (clearMasked mask s).link = s.link ∧ (clearMasked mask s).accept = s.accept ∧
      (clearMasked mask s).members = s.members ∧ (clearMasked mask s).claim = s.claim ∧
      (clearMasked mask s).sched = s.sched ∧ (clearMasked mask s).bar = s.bar ∧
      (clearMasked mask s).valves = s.valves ∧ (clearMasked mask s).air = s.air ∧
      (clearMasked mask s).chute = s.chute ∧ (clearMasked mask s).pending = s.pending :=
  ⟨rfl, rfl, rfl, rfl, rfl, rfl, rfl, rfl, rfl, rfl, rfl, rfl, rfl, rfl⟩

@[simp] theorem setMask_frame (mask : BitVec 16) (s : State) :
    (setMask mask s).clock = s.clock ∧ (setMask mask s).belt = s.belt ∧ (setMask mask s).intake = s.intake ∧
      (setMask mask s).engine = s.engine ∧ (setMask mask s).link = s.link ∧ (setMask mask s).accept = s.accept ∧
      (setMask mask s).members = s.members ∧ (setMask mask s).claim = s.claim ∧ (setMask mask s).sched = s.sched ∧
      (setMask mask s).bar = s.bar ∧ (setMask mask s).valves = s.valves ∧ (setMask mask s).air = s.air ∧
      (setMask mask s).chute = s.chute ∧ (setMask mask s).pending = s.pending :=
  ⟨rfl, rfl, rfl, rfl, rfl, rfl, rfl, rfl, rfl, rfl, rfl, rfl, rfl, rfl⟩

@[simp] theorem armReset_frame (s : State) :
    (armReset s).clock = s.clock ∧ (armReset s).belt = s.belt ∧ (armReset s).intake = s.intake ∧
      (armReset s).engine = s.engine ∧ (armReset s).link = s.link ∧ (armReset s).accept = s.accept ∧
      (armReset s).members = s.members ∧ (armReset s).claim = s.claim ∧ (armReset s).sched = s.sched ∧
      (armReset s).bar = s.bar ∧ (armReset s).valves = s.valves ∧ (armReset s).air = s.air ∧
      (armReset s).chute = s.chute ∧ (armReset s).pending = s.pending :=
  ⟨rfl, rfl, rfl, rfl, rfl, rfl, rfl, rfl, rfl, rfl, rfl, rfl, rfl, rfl⟩

@[simp] theorem markUnannounced_frame (id : PieceId) (s : State) :
    (markUnannounced id s).clock = s.clock ∧ (markUnannounced id s).belt = s.belt ∧
      (markUnannounced id s).intake = s.intake ∧ (markUnannounced id s).link = s.link ∧
      (markUnannounced id s).accept = s.accept ∧ (markUnannounced id s).members = s.members ∧
      (markUnannounced id s).claim = s.claim ∧ (markUnannounced id s).sched = s.sched ∧
      (markUnannounced id s).bar = s.bar ∧ (markUnannounced id s).valves = s.valves ∧
      (markUnannounced id s).air = s.air ∧ (markUnannounced id s).chute = s.chute ∧
      (markUnannounced id s).port = s.port ∧ (markUnannounced id s).pending = s.pending := by
  unfold markUnannounced
  split <;> exact ⟨rfl, rfl, rfl, rfl, rfl, rfl, rfl, rfl, rfl, rfl, rfl, rfl, rfl, rfl⟩

@[simp] theorem assertReset_frame (s : State) :
    (assertReset s).clock = s.clock ∧ (assertReset s).pending = s.pending :=
  ⟨rfl, rfl⟩

@[simp] theorem releaseReset_frame (s : State) :
    (releaseReset s).clock = s.clock ∧ (releaseReset s).belt = s.belt ∧ (releaseReset s).engine = s.engine ∧
      (releaseReset s).link = s.link ∧ (releaseReset s).accept = s.accept ∧ (releaseReset s).members = s.members ∧
      (releaseReset s).claim = s.claim ∧ (releaseReset s).sched = s.sched ∧ (releaseReset s).bar = s.bar ∧
      (releaseReset s).valves = s.valves ∧ (releaseReset s).air = s.air ∧ (releaseReset s).chute = s.chute ∧
      (releaseReset s).pending = s.pending :=
  ⟨rfl, rfl, rfl, rfl, rfl, rfl, rfl, rfl, rfl, rfl, rfl, rfl, rfl⟩

@[simp] theorem stopStandbyTimer_frame (s : State) :
    (stopStandbyTimer s).clock = s.clock ∧ (stopStandbyTimer s).belt = s.belt ∧
      (stopStandbyTimer s).intake = s.intake ∧ (stopStandbyTimer s).engine = s.engine ∧
      (stopStandbyTimer s).link = s.link ∧ (stopStandbyTimer s).accept = s.accept ∧
      (stopStandbyTimer s).members = s.members ∧ (stopStandbyTimer s).claim = s.claim ∧
      (stopStandbyTimer s).sched = s.sched ∧ (stopStandbyTimer s).bar = s.bar ∧
      (stopStandbyTimer s).valves = s.valves ∧ (stopStandbyTimer s).chute = s.chute ∧
      (stopStandbyTimer s).port = s.port ∧ (stopStandbyTimer s).pending = s.pending :=
  ⟨rfl, rfl, rfl, rfl, rfl, rfl, rfl, rfl, rfl, rfl, rfl, rfl, rfl, rfl⟩

@[simp] theorem abandonTransaction_frame (s : State) :
    (abandonTransaction s).clock = s.clock ∧ (abandonTransaction s).belt = s.belt ∧
      (abandonTransaction s).intake = s.intake ∧ (abandonTransaction s).engine = s.engine ∧
      (abandonTransaction s).link = s.link ∧ (abandonTransaction s).accept = s.accept ∧
      (abandonTransaction s).members = s.members ∧ (abandonTransaction s).claim = s.claim ∧
      (abandonTransaction s).sched = s.sched ∧ (abandonTransaction s).bar = s.bar ∧
      (abandonTransaction s).valves = s.valves ∧ (abandonTransaction s).air = s.air ∧
      (abandonTransaction s).chute = s.chute ∧ (abandonTransaction s).pending = s.pending :=
  ⟨rfl, rfl, rfl, rfl, rfl, rfl, rfl, rfl, rfl, rfl, rfl, rfl, rfl, rfl⟩

end Sys2Proof.Machine
end

