-- ==== Sys2Proof/Laws/Spine.lean ====
section
/-! SUPPORT. What the departures, claims and evaluations leave alone, said once for each shared operation: everything but the
tracks, the transmit slots, the claim lists, the schedule, the valves' health, the supply, the outcome queue and the counts
that go with them. -/

namespace Sys2Proof.Machine

theorem foldl_spine {α : Type} (f : State → α → State) (h : ∀ a x, spine (f a x) = spine a) (l : List α) (s : State) :
    spine (l.foldl f s) = spine s := by
  induction l generalizing s with
  | nil => rfl
  | cons x xs ih => rw [List.foldl_cons, ih, h]

/-! ### Plain updates -/

@[simp] theorem raiseFlag_spine (f : Flag) (s : State) : spine (raiseFlag f s) = spine s := rfl
@[simp] theorem modifyTrack_spine (k : Nat) (f : Track → Track) (s : State) : spine (modifyTrack k f s) = spine s := rfl
@[simp] theorem removeTrack_spine (k : Nat) (s : State) : spine (removeTrack k s) = spine s := rfl
@[simp] theorem setOwn_spine (k : Nat) (o : OwnState) (s : State) : spine (setOwn k o s) = spine s := rfl
@[simp] theorem removeSlot_spine (h : Nat) (s : State) : spine (removeSlot h s) = spine s := rfl
@[simp] theorem modifySlot_spine (h : Nat) (f : Slot → Slot) (s : State) : spine (modifySlot h f s) = spine s := rfl
@[simp] theorem countDeparture_spine (t : Track) (s : State) : spine (countDeparture t s) = spine s := rfl
@[simp] theorem orphanRecords_spine (t : Track) (s : State) : spine (orphanRecords t s) = spine s := rfl
@[simp] theorem countUnsent_spine (s : State) : spine (countUnsent s) = spine s := rfl
@[simp] theorem removeEntry_spine (k : Nat) (s : State) : spine (removeEntry k s) = spine s := rfl
@[simp] theorem setEntry_spine (e : Entry) (s : State) : spine (setEntry e s) = spine s := rfl
@[simp] theorem armEntry_spine (k : Nat) (s : State) : spine (armEntry k s) = spine s := rfl
@[simp] theorem modifyRecord_spine (h : Nat) (f : OwnClaim → OwnClaim) (s : State) :
    spine (modifyRecord h f s) = spine s := rfl
@[simp] theorem removeRecord_spine (h : Nat) (s : State) : spine (removeRecord h s) = spine s := rfl
@[simp] theorem countUnknownId_spine (s : State) : spine (countUnknownId s) = spine s := rfl
@[simp] theorem countIgnored_spine (s : State) : spine (countIgnored s) = spine s := rfl
@[simp] theorem stopStandbyTimer_spine (s : State) : spine (stopStandbyTimer s) = spine s := rfl

@[simp] theorem markUnannounced_spine (id : PieceId) (s : State) : spine (markUnannounced id s) = spine s := by
  unfold markUnannounced; split <;> simp

@[simp] theorem recordFiring_spine (id : PieceId) (vs : ValveSet) (s : State) : spine (recordFiring id vs s) = spine s := by
  unfold recordFiring; split <;> rfl

@[simp] theorem putOutcome_spine (r : OutcomeRecord) (s : State) : spine (putOutcome r s) = spine s := by
  unfold putOutcome; split <;> rfl

@[simp] theorem startStandbyTimer_spine (s : State) : spine (startStandbyTimer s) = spine s := by
  unfold startStandbyTimer; split <;> rfl

@[simp] theorem scheduleEmptied_spine (s : State) : spine (scheduleEmptied s) = spine s := by
  unfold scheduleEmptied; split <;> simp

/-! ### Transmit slots -/

@[simp] theorem pieceOutcome_spine (id : PieceId) (r : TxReport) (s : State) : spine (pieceOutcome id r s) = spine s := by
  unfold pieceOutcome; split <;> simp

@[simp] theorem noticeOutcome_spine (n : Notice) (r : TxReport) (s : State) : spine (noticeOutcome n r s) = spine s := by
  cases n <;> simp only [noticeOutcome] <;> first | simp | (split <;> rfl)

theorem roomForAdd_spine {cls : AccessClass} {s t : State} (h : roomForAdd cls s = some t) : spine t = spine s := by
  unfold roomForAdd at h
  split at h
  · cases h
  · split at h
    · cases h; rfl
    · split at h
      · split at h
        · cases h
        · cases h; simp
      · cases h

theorem slotAdd_spine {n : Notice} {d : Option Count} {s t : State} {k : Nat} (h : slotAdd n d s = some (t, k)) :
    spine t = spine s := by
  unfold slotAdd at h
  split at h
  · cases h
  · rename_i s1 hs1
    cases h
    exact Eq.trans (b := spine s1) rfl (roomForAdd_spine hs1)

theorem addNotice_spine (n : Notice) (d : Option Count) (refused : State → State)
    (hr : ∀ a, spine (refused a) = spine a) (s : State) : spine (addNotice n d refused s) = spine s := by
  unfold addNotice
  split
  · exact hr s
  · rename_i s1 k hk
    split
    · simpa using slotAdd_spine hk
    · exact slotAdd_spine hk

/-! ### Departures -/

@[simp] theorem retire_spine (t : Track) (s : State) : spine (retire t s) = spine s := rfl

@[simp] theorem retireOrHold_spine (t : Track) (s : State) : spine (retireOrHold t s) = spine s := by
  unfold retireOrHold; split <;> simp

@[simp] theorem linkCleared_spine (k : Nat) (s : State) : spine (linkCleared k s) = spine s := by
  unfold linkCleared
  simp only [scheduleEmptied_spine]
  split
  · rfl
  · split
    · split <;> simp
    · rfl

@[simp] theorem requestFired_spine (e : Entry) (t : Track) (s : State) : spine (requestFired e t s) = spine s :=
  addNotice_spine _ _ _ countUnsent_spine _

theorem leave_spine (e : Entry) (r : Result) (tell : State → State) (ht : ∀ a, spine (tell a) = spine a) (s : State) :
    spine (leave e r tell s) = spine s := by
  unfold leave
  split
  · simp
  · simp only [linkCleared_spine, ht]
    split <;> simp

@[simp] theorem leave_id_spine (e : Entry) (r : Result) (s : State) : spine (leave e r id s) = spine s :=
  leave_spine e r id (fun _ => rfl) s

@[simp] theorem dropEntry_spine (k : Nat) (r : Result) (s : State) : spine (dropEntry k r s) = spine s := by
  unfold dropEntry; split <;> simp

@[simp] theorem closeEntry_spine (e : Entry) (r : Result) (cut : Bool) (s : State) :
    spine (closeEntry e r cut s) = spine s := by
  unfold closeEntry; simp; rfl

@[simp] theorem interruptAll_spine (s : State) : spine (interruptAll s) = spine s :=
  foldl_spine _ (fun _ _ => closeEntry_spine _ _ _ _) _ _

/-! ### Own claims -/

@[simp] theorem claimOutcome_spine (h : Nat) (r : TxReport) (s : State) : spine (claimOutcome h r s).1 = spine s := by
  unfold claimOutcome
  split
  · rfl
  · split
    · split <;> simp
    · simp only
      split <;> simp

@[simp] theorem endSlot_spine (x : Slot) (o : TxOutcome) (s : State) : spine (endSlot x o s).1 = spine s := by
  unfold endSlot; split <;> simp

@[simp] theorem cancelSlot_spine (h : Nat) (s : State) : spine (cancelSlot h s).1 = spine s := by
  unfold cancelSlot
  split
  · rfl
  · split <;> simp

@[simp] theorem giveUpClaim_spine (t : Track) (r : OwnClaim) (why : GiveUp) (own : OwnState) (s : State) :
    spine (giveUpClaim t r why own s).1 = spine s := by
  unfold giveUpClaim; simp

@[simp] theorem schedulerGaveUp_spine (k : Nat) (why : GiveUp) (s : State) : spine (schedulerGaveUp k why s) = spine s := by
  unfold schedulerGaveUp
  split
  · rfl
  · split <;> simp

@[simp] theorem requestRelease_spine (k : Nat) (why : ReleaseReason) (s : State) :
    spine (requestRelease k why s) = spine s := by
  unfold requestRelease
  split
  · rfl
  · rw [addNotice_spine _ _ _ countUnsent_spine]; simp

@[simp] theorem schedulerEnds_spine (e : Entry) (r : Result) (why : GiveUp) (s : State) :
    spine (schedulerEnds e r why s) = spine s := by
  unfold schedulerEnds
  split
  · exact leave_spine _ _ _ (schedulerGaveUp_spine _ _) _
  · exact leave_spine _ _ _ (requestRelease_spine _ _) _
  · simp

/-! ### The scheduler and the supply -/

@[simp] theorem supplyReaction_spine (new : Supply) (s : State) : spine (supplyReaction new s) = spine s := by
  unfold supplyReaction
  split
  · rfl
  · rfl
  · rw [interruptAll_spine, foldl_spine _ (fun _ _ => schedulerEnds_spine _ _ _ _)]
  · simp
  · simp

@[simp] theorem supplyTo_spine (new : Supply) (s : State) : spine (supplyTo new s) = spine s := by
  unfold supplyTo; split
  · rfl
  · simp; rfl

@[simp] theorem chargedUp_spine (s : State) : spine (chargedUp s) = spine s := by
  unfold chargedUp
  simp only
  split <;> simp <;> rfl

@[simp] theorem supplyRequested_spine (s : State) : spine (supplyRequested s) = spine s := by
  have h (a : State) (x : Option Nat) : spine { a with air.chargeTimer := x } = spine a := rfl
  unfold supplyRequested
  split
  · simp only
    split <;> simp [h]
  · rfl

@[simp] theorem displace_spine (s : State) (e : Entry) : spine (displace s e) = spine s := by
  unfold displace; simp; rfl

@[simp] theorem admitEntry_spine (e : Entry) (s : State) : spine (admitEntry e s) = spine s := by
  unfold admitEntry; split <;> rfl

@[simp] theorem admission_spine (t : Track) (c : ClassCode) (w : Window) (vs : ValveSet) (s : State) :
    spine (admission t c w vs s).1 = spine s := by
  have h (a : State) (n : Nat) : spine { a with sched.lastPeak := n } = spine a := rfl
  unfold admission
  simp only
  split
  · rfl
  · simp [h, foldl_spine _ displace_spine]

@[simp] theorem requestEntry_spine (t : Track) (c : ClassCode) (s : State) : spine (requestEntry t c s).1 = spine s := by
  unfold requestEntry
  simp only
  repeat' split
  all_goals simp

theorem countFirings_bare (vs : ValveSet) (m : ValveMap) :
    (countFirings vs m).valve.map bareValve = m.valve.map bareValve := by
  apply Vector.ext
  intro i hi
  simp only [countFirings, Vector.getElem_map, Vector.getElem_ofFn]
  split <;> rfl

@[simp] theorem openCheck_spine (e : Entry) (s : State) : spine (openCheck e s) = spine s := by
  unfold openCheck
  simp only
  split
  · simp
  · split
    · simp
    · split
      · unfold spine
        simp [setEntry, countFirings_bare]
        simp [countFirings]
      · simp

/-! ### Claims and decisions -/

@[simp] theorem addClaim_spine (t : Track) (c : ClassCode) (o : Count) (s : State) : spine (addClaim t c o s) = spine s := by
  unfold addClaim
  simp only
  split
  · simp
  · rename_i s1 k hk
    have h1 := slotAdd_spine hk
    have h (a : State) (x : List OwnClaim) : spine { a with claim.ownClaims := x } = spine a := rfl
    split <;> simp [h, h1]

@[simp] theorem claimRequest_spine (t : Track) (c : ClassCode) (s : State) : spine (claimRequest t c s) = spine s := by
  unfold claimRequest
  have h := requestEntry_spine t c s
  split <;> rename_i heq <;> rw [heq] at h <;> simpa using h

@[simp] theorem examine_spine (k : Nat) (s : State) : spine (examine k s) = spine s := by
  unfold examine
  split
  · rfl
  · split
    · rfl
    · split
      · rfl
      · rfl
      · split
        · split <;> simp
        · split <;> rfl

theorem examineIf_spine (r : State × Option Nat) : spine (examineIf r) = spine r.1 := by
  unfold examineIf; split <;> simp

@[simp] theorem handOff_spine (k : Nat) (d : Decision) (c : EvalCause) (s : State) : spine (handOff k d c s) = spine s := by
  unfold handOff
  split
  · rfl
  · split
    · split <;> simp
    · split
      · rfl
      · split
        · rfl
        · simp [examineIf_spine]
    all_goals rfl

@[simp] theorem settleMet_spine (h : Nat) (s : State) : spine (settleMet h s).1 = spine s := by
  unfold settleMet
  split
  · rfl
  · split <;> simp

@[simp] theorem ownClaimFirst_spine (k : Nat) (id : PieceId) (s : State) : spine (ownClaimFirst k id s) = spine s := by
  unfold ownClaimFirst
  split
  · rfl
  · simp only [examineIf_spine, settleMet_spine]
    split
    · rfl
    · split
      · simp only [armEntry_spine, setOwn_spine]; rfl
      · simp

@[simp] theorem ownClaimNotFirst_spine (id : PieceId) (s : State) : spine (ownClaimNotFirst id s) = spine s := by
  unfold ownClaimNotFirst
  split
  · rfl
  · simp only [examineIf_spine, settleMet_spine]
    split <;> rfl

@[simp] theorem foreignClaimFirst_spine (t : Track) (n : Node) (s : State) : spine (foreignClaimFirst t n s) = spine s := by
  have h (a : State) (x : Tally) : spine { a with claim.lost := x } = spine a := rfl
  unfold foreignClaimFirst
  split
  · simp only
    split <;> simp [h, examineIf_spine]
  · rfl

@[simp] theorem applyClaim_spine (id : PieceId) (n : Node) (own : Bool) (s : State) :
    spine (applyClaim id n own s) = spine s := by
  unfold applyClaim
  split
  · rfl
  · split
    · split <;> simp
    · split
      · split <;> simp
      · split <;> simp

@[simp] theorem applyRelease_spine (id : PieceId) (n : Node) (own : Bool) (s : State) :
    spine (applyRelease id n own s) = spine s := by
  unfold applyRelease
  simp only
  repeat' split
  all_goals simp

@[simp] theorem applyFired_spine (id : PieceId) (n : Node) (s : State) : spine (applyFired id n s) = spine s := by
  unfold applyFired
  repeat' split
  all_goals simp

@[simp] theorem applyDropNotice_spine (s : State) (n : DropNotice) : spine (applyDropNotice s n) = spine s := by
  unfold applyDropNotice
  simp only
  split <;> simp

@[simp] theorem advanceDropNotices_spine (s : State) : spine (advanceDropNotices s) = spine s := by
  unfold advanceDropNotices
  simp only
  rw [foldl_spine _ applyDropNotice_spine]; rfl

@[simp] theorem claimNeverFirst_spine (id : PieceId) (s : State) : spine (claimNeverFirst id s) = spine s := by
  unfold claimNeverFirst
  split
  · rfl
  · simp only [examineIf_spine, settleMet_spine]
    split <;> simp

@[simp] theorem reportOwnDrop_spine (k : UrgentKind) (id : PieceId) (l : Count) (s : State) :
    spine (reportOwnDrop k id l s) = spine s := by
  unfold reportOwnDrop
  split
  · rfl
  · split <;> simp

@[simp] theorem evaluate_spine (k : Nat) (c : EvalCause) (s : State) : spine (evaluate k c s) = spine s := by
  unfold evaluate
  split
  · rfl
  · simp only [handOff_spine]
    split <;> rfl

@[simp] theorem meetPoint_spine (k : Nat) (s : State) : spine (meetPoint k s) = spine s := by
  unfold meetPoint
  split
  · rfl
  · simp only
    split <;> simp

@[simp] theorem handToEvaluation_spine (m : Mode) (k : Nat) (s : State) : spine (handToEvaluation m k s) = spine s := by
  unfold handToEvaluation
  split
  · rfl
  · split <;> simp

end Sys2Proof.Machine
end

