-- ==== Sys2Proof/Laws/Bar.lean ====
section
/-! SUPPORT. The bar link's bookkeeping (R163): syncBar touches the bar alone, and leaves it in step with the schedule and the
supply. -/

namespace Sys2Proof.Machine

theorem syncBar_eq (s : State) : ∃ b, syncBar s = { s with bar := b } := by
  unfold syncBar
  simp only
  split
  · exact ⟨s.bar, rfl⟩
  · split
    · exact ⟨_, rfl⟩
    · exact ⟨_, rfl⟩

@[simp] theorem syncBar_frame (s : State) :
    (syncBar s).clock = s.clock ∧ (syncBar s).belt = s.belt ∧ (syncBar s).intake = s.intake ∧
      (syncBar s).engine = s.engine ∧ (syncBar s).link = s.link ∧ (syncBar s).accept = s.accept ∧
      (syncBar s).members = s.members ∧ (syncBar s).claim = s.claim ∧ (syncBar s).sched = s.sched ∧
      (syncBar s).valves = s.valves ∧ (syncBar s).air = s.air ∧ (syncBar s).chute = s.chute ∧
      (syncBar s).port = s.port ∧ (syncBar s).pending = s.pending := by
  obtain ⟨b, h⟩ := syncBar_eq s
  rw [h]
  exact ⟨rfl, rfl, rfl, rfl, rfl, rfl, rfl, rfl, rfl, rfl, rfl, rfl, rfl, rfl⟩

theorem syncBar_of_inStep {s : State} (h : BarInStep s) : syncBar s = s := by
  unfold syncBar
  simp [h.1, h.2]

theorem driveOf_congr {s t : State} (h : t.sched.entries = s.sched.entries) : driveOf t = driveOf s := by
  unfold driveOf; rw [h]

theorem pilotOpen_congr {s t : State} (h : t.air.supply = s.air.supply) : pilotOpen t = pilotOpen s := by
  unfold pilotOpen; rw [h]

theorem syncBar_inStep (s : State) : BarInStep (syncBar s) := by
  have hd : driveOf (syncBar s) = driveOf s := driveOf_congr (by simp)
  have hp : pilotOpen (syncBar s) = pilotOpen s := pilotOpen_congr (by simp)
  unfold BarInStep
  rw [hd, hp]
  unfold syncBar
  simp only
  split
  · rename_i h; simpa using h
  · split <;> exact ⟨rfl, rfl⟩

theorem inStep_congr {s t : State} (hb : t.bar = s.bar) (he : t.sched.entries = s.sched.entries)
    (ha : t.air.supply = s.air.supply) (h : BarInStep s) : BarInStep t :=
  ⟨by rw [hb, driveOf_congr he]; exact h.1, by rw [hb, pilotOpen_congr ha]; exact h.2⟩

end Sys2Proof.Machine
end

