-- ==== Sys2Proof/Laws/Schedule.lean ====
section
/-! SUPPORT. What each shared operation does to the schedule's entries and to the supply state: adding a notice, putting an
outcome and clearing a link leave both alone; a departure takes out the entries of one track. -/

namespace Sys2Proof.Machine

/-- Two states with the same schedule entries and the same supply state: what the drive and the pilot depend on. -/
def SameDrive (t s : State) : Prop := t.sched.entries = s.sched.entries ∧ t.air.supply = s.air.supply

theorem SameDrive.rfl' (s : State) : SameDrive s s := ⟨rfl, rfl⟩

theorem SameDrive.trans' {a b c : State} (h : SameDrive a b) (k : SameDrive b c) : SameDrive a c :=
  ⟨h.1.trans k.1, h.2.trans k.2⟩

theorem putOutcome_sameDrive (r : OutcomeRecord) (s : State) : SameDrive (putOutcome r s) s := by
  unfold putOutcome; split <;> exact ⟨rfl, rfl⟩

theorem recordFiring_sameDrive (id : PieceId) (vs : ValveSet) (s : State) : SameDrive (recordFiring id vs s) s := by
  unfold recordFiring; split <;> exact ⟨rfl, rfl⟩

theorem noticeOutcome_sameDrive (n : Notice) (r : TxReport) (s : State) : SameDrive (noticeOutcome n r s) s := by
  unfold noticeOutcome pieceOutcome
  repeat' split
  all_goals exact ⟨rfl, rfl⟩

theorem slotAdd_sameDrive {n : Notice} {d : Option Count} {s t : State} {k : Nat} (h : slotAdd n d s = some (t, k)) :
    SameDrive t s := by
  unfold slotAdd at h
  split at h
  · cases h
  · rename_i s1 hr
    simp only [Option.some.injEq, Prod.mk.injEq] at h
    obtain ⟨rfl, -⟩ := h
    suffices hs : SameDrive s1 s by exact hs
    unfold roomForAdd at hr
    repeat' split at hr
    all_goals first
      | (cases hr; done)
      | (cases hr; exact ⟨rfl, rfl⟩)
      | (cases hr; exact noticeOutcome_sameDrive _ _ _)

theorem addNotice_sameDrive (n : Notice) (d : Option Count) (refused : State → State)
    (hr : ∀ a, SameDrive (refused a) a) (s : State) : SameDrive (addNotice n d refused s) s := by
  unfold addNotice
  split
  · exact hr s
  · rename_i s1 h hs
    have h1 := slotAdd_sameDrive hs
    split
    · exact (noticeOutcome_sameDrive _ _ _).trans' h1
    · exact h1

theorem requestFired_sameDrive (e : Entry) (t : Track) (s : State) : SameDrive (requestFired e t s) s :=
  addNotice_sameDrive _ _ countUnsent (fun _ => ⟨rfl, rfl⟩) s

theorem requestRelease_sameDrive (k : Nat) (why : ReleaseReason) (s : State) : SameDrive (requestRelease k why s) s := by
  unfold requestRelease
  split
  · exact ⟨rfl, rfl⟩
  · exact addNotice_sameDrive _ _ countUnsent (fun _ => ⟨rfl, rfl⟩) (setOwn k .releasedBySelf s)

theorem startStandbyTimer_sameDrive (s : State) : SameDrive (startStandbyTimer s) s := by
  unfold startStandbyTimer; split <;> exact ⟨rfl, rfl⟩

theorem linkCleared_sameDrive (k : Nat) (s : State) : SameDrive (linkCleared k s) s := by
  have hs : ∀ a, SameDrive (scheduleEmptied a) a := by
    intro a; unfold scheduleEmptied; split
    · exact startStandbyTimer_sameDrive a
    · exact ⟨rfl, rfl⟩
  unfold linkCleared
  simp only
  refine (hs _).trans' ?_
  split
  · exact ⟨rfl, rfl⟩
  · split
    · split <;> exact ⟨rfl, rfl⟩
    · exact ⟨rfl, rfl⟩

/-- The entries left when those of one track have gone. -/
def without (key : Nat) (entries : List Entry) : List Entry := entries.filter fun e => e.track ≠ key

/-- A departure takes out the entries of its track and leaves the supply alone. -/
theorem leave_entries (e : Entry) (r : Result) (tell : State → State) (ht : ∀ a, SameDrive (tell a) a) (s : State) :
    (leave e r tell s).sched.entries = without e.track s.sched.entries ∧ (leave e r tell s).air.supply = s.air.supply := by
  unfold leave
  split
  · exact ⟨rfl, rfl⟩
  · simp only
    have hp : ∀ x, SameDrive (putOutcome x (removeEntry e.track s)) (removeEntry e.track s) :=
      fun x => putOutcome_sameDrive x _
    have hg : SameDrive (removeEntry e.track s) { s with sched.entries := without e.track s.sched.entries } := ⟨rfl, rfl⟩
    show SameDrive _ { s with sched.entries := without e.track s.sched.entries }
    refine (linkCleared_sameDrive _ _).trans' ((ht _).trans' (SameDrive.trans' ?_ hg))
    split
    · exact (requestFired_sameDrive _ _ _).trans' ((recordFiring_sameDrive _ _ _).trans' (hp _))
    · exact hp _

theorem closeEntry_entries (e : Entry) (r : Result) (c : Bool) (s : State) :
    (closeEntry e r c s).sched.entries = without e.track s.sched.entries
      ∧ (closeEntry e r c s).air.supply = s.air.supply := by
  unfold closeEntry
  simp only
  exact leave_entries _ _ _ (fun _ => ⟨rfl, rfl⟩) _

theorem dropEntry_supply (k : Nat) (r : Result) (s : State) : (dropEntry k r s).air.supply = s.air.supply := by
  unfold dropEntry
  split
  · rfl
  · exact (leave_entries _ _ _ (fun _ => ⟨rfl, rfl⟩) _).2

/-- Departures of several tracks, one after another. -/
theorem foldl_entries {α : Type} (key : α → Nat) (f : State → α → State)
    (hf : ∀ a x, (f a x).sched.entries = without (key x) a.sched.entries ∧ (f a x).air.supply = a.air.supply)
    (l : List α) (s : State) :
    (l.foldl f s).sched.entries = s.sched.entries.filter (fun e => !(l.any fun x => key x = e.track))
      ∧ (l.foldl f s).air.supply = s.air.supply := by
  induction l generalizing s with
  | nil => simp
  | cons x xs ih =>
    rw [List.foldl_cons]
    obtain ⟨h1, h2⟩ := ih (f s x)
    refine ⟨?_, by rw [h2, (hf s x).2]⟩
    rw [h1, (hf s x).1, without, List.filter_filter]
    congr 1
    funext e
    simp only [List.any_cons, Bool.not_or]
    by_cases h : key x = e.track
    · simp [h]
    · simp [h, Ne.symm h]

theorem interruptAll_entries (s : State) :
    (interruptAll s).sched.entries
        = s.sched.entries.filter (fun e => !((s.sched.entries.filter fun o => o.state = .opened).any fun o => o.track = e.track))
      ∧ (interruptAll s).air.supply = s.air.supply :=
  foldl_entries (fun (o : Entry) => o.track) (fun a e => closeEntry e .interrupted false a)
    (fun a x => closeEntry_entries x .interrupted false a) (s.sched.entries.filter fun o => o.state = .opened) s

/-- After every OPEN entry has been interrupted none is left. -/
theorem interruptAll_noneOpen (s : State) : ∀ e ∈ (interruptAll s).sched.entries, e.state ≠ .opened := by
  intro e he ho
  rw [(interruptAll_entries s).1, List.mem_filter] at he
  obtain ⟨hm, hn⟩ := he
  simp only [Bool.not_eq_true', List.any_eq_false, List.mem_filter] at hn
  exact hn e ⟨hm, by simpa using ho⟩ (by simp)

end Sys2Proof.Machine
end

