-- ==== Sys2Proof/Laws/Table.lean ====
section
/-! SUPPORT. The laws of the track table, of the plenum and of a loaded profile in the forms a proof or a test uses them. -/

namespace Sys2Proof.Machine

theorem tableLawful_iff (s : State) :
    TableLawful s
      ↔ ((s.engine.tracks.map (·.key)).Nodup ∧ ∀ t ∈ s.engine.tracks, t.key < s.engine.nextKey)
        ∧ s.engine.tracks.length ≤ Config.trackSize ∧ (s.engine.tracks.flatMap idsOf).Nodup :=
  ⟨fun h => ⟨h.keys, h.size, h.ids⟩, fun h => ⟨h.1, h.2.1, h.2.2⟩⟩

/-- An unknown datum replaces no position source (R48). -/
@[simp] theorem not_replaces_none (source : Option (BitVec 24)) : ¬ Replaces none source :=
  fun ⟨_, h, _⟩ => nomatch h

/-- A known datum replaces an unknown position source (R48). -/
@[simp] theorem replaces_some_none (m : BitVec 24) : Replaces (some m) none := ⟨m, rfl, fun _ h => nomatch h⟩

/-- Of two known datums the larger one replaces the other (R48). -/
@[simp] theorem replaces_some_some (m n : BitVec 24) : Replaces (some m) (some n) ↔ n < m :=
  ⟨fun ⟨_, h, k⟩ => by cases h; exact k n rfl, fun h => ⟨m, rfl, fun _ k => by cases k; exact h⟩⟩

/-- A schedule with no entry puts no load on the plenum. -/
@[simp] theorem loadAt_nil (vs : ValveSet) (x : Count) : loadAt [] vs x = valveCount vs := rfl

/-- One entry's load is its own within its window, and none outside it. -/
theorem loadAt_single (e : Entry) (x : Count) :
    loadAt [e] 0 x = if windowHolds e.openCount e.closeCount x then valveCount (loadSet e) else valveCount 0 := by
  unfold loadAt
  simp only [List.foldl_cons, List.foldl_nil]
  split <;> simp_all

/-- A profile that passed the checks has a watermark of 1 to 32 (R192, field 43). -/
theorem watermark_of_loaded {a : List Byte} (h : profileOffence a = none) :
    1 ≤ (profileOf a).watermark ∧ (profileOf a).watermark ≤ 32 := by
  simp only [profileOffence, Option.map_eq_none_iff, List.find?_eq_none] at h
  have hw : fieldCheck 43 (within 1 32 (u8 a 277)) ∈ profileChecks a := by simp [profileChecks]
  simpa [fieldCheck, within, profileOf, Nat.one_le_iff_ne_zero] using h _ hw

theorem watermarkSet_of_held {s : State} {p : Profile} (h : s.port.profile = some p) (hw : 1 ≤ p.watermark) : WatermarkSet s :=
  fun q hq => by rw [h] at hq; cases hq; exact hw

end Sys2Proof.Machine
end

