-- ==== Sys2Proof/WellFormed.lean ====
section
/-! DEFINITION. Which commands the outside can offer: the ranges of the operands that their types do not already bound. -/

namespace Sys2Proof

/-- A station port argument: its length field is 16 bits (11 §11.1). -/
def argumentFits (arg : List Byte) : Bool := arg.length ≤ 65535

/-- The operand ranges of the spec for one command. -/
def Instr.wf : Instr → Bool
  | .startOfFrame run => 10 ≤ run
  | .requiredCountLowered run => 1 ≤ run
  | .slotStart run => 1 ≤ run
  | .frameReceived bytes => 4 ≤ bytes.length && bytes.length ≤ 24
  | .frameDiscarded _ run => run ≤ 10
  | .transferComplete returned => returned.length = 9
  | .loadProfile arg | .start arg | .halt arg | .resumeLink arg | .editValveMap arg | .readValveMap arg
  | .readStatus arg | .readPeers arg | .readOutcomes arg | .removeOutcomes arg | .clearEvents arg
  | .setEventMask arg | .reset arg => argumentFits arg
  | .badCommandCode code arg => (code = 0 || 13 < code.toNat) && argumentFits arg
  | .encoderEdge _ | .speedWindowEnd | .scanStrobe | .strobeWordEnd | .recordComplete _ _ | .detectionEntryTaken
  | .pieceEntryTaken | .decisionPointReached _ | .retirementCountReached _ | .arbitrationLost | .bitError
  | .sendSuccess | .listeningTimerEnd | .heartbeatTimerExpiry | .supervisionDeadline _ | .slotDeadlineStale _
  | .claimEntryTaken | .releaseEntryTaken | .firedEntryTaken | .openCountReached _ | .closeCountReached _
  | .guardExpiry _ | .pressureOkActive | .pressureOkInactive | .chargeTimerExpiry
  | .standbyTimerExpiry | .confirmEntryTaken | .arrivalEntryTaken | .expectationExpiry _ | .heldArrivalLeave
  | .haltingEnd | .portTransactionAbandoned | .stationReset _ | .powerOnReset => true

end Sys2Proof
end

