-- ==== Sys2Proof/Tests/Slice0.lean ====
section
/-! SUPPORT. Tests: the operand checks, one step of each worked sequence of the spec, and a witness for the hypotheses of every
statement. Expected values are the spec's own, or worked by hand from it. -/

namespace Sys2Proof.Tests

set_option Elab.async false

open Sys2Proof Sys2Proof.Machine

/-! ### Fixtures -/

/-- A combined station's profile: node 2, roles SENSE and EJECT, ALUMINIUM-like class 4 primary and class 5 fallback. -/
def combined : Profile :=
  { Profile.blank with
    node := 2
    sense := true
    eject := true
    datum := 28000
    heartbeatPeriod := 100
    localKind := 3
    weights := #v[15, 12, 10, 5, 4, 0, 0, 0]
    scanPitch := 8
    gateLong := 40
    gateLat := 4
    horizon := 6000
    announceLifetime := 3000
    reportLag := 1000
    intakeHigh := 12
    intakeLow := 4
    generalHigh := 16
    generalLow := 6
    returnScans := 3
    aMin := 1000
    mMin := Vector.replicate 16 800
    primary := 0x0010
    fallback := 0x0020
    priority := #v[0, 0, 0, 0, 3, 2, 1, 5, 0, 0, 0, 0, 0, 0, 0, 0]
    marginFront := Vector.replicate 16 20
    marginRear := Vector.replicate 16 40
    marginLat := 2
    barOffset := 6400
    decisionLead := 2400
    claimLead := 400
    openLatency := 25
    closeLatency := 15
    minOnTime := 30
    maxOnTime := 400
    sMin := 128
    plenumLimit := 16
    coreWidth := 4
    standbyTime := 60
    chargeTime := 150
    suspectThreshold := 3
    watchedBar := 5
    watchedChute := 1
    flightMin := 200
    flightMax := 600
    watermark := 4 }

/-- A bridge: the same station without EJECT. -/
def bridge : Profile := { combined with eject := false }

/-- A chute check station: CHECK alone. -/
def checker : Profile := { combined with sense := false, eject := false, check := true }

/-- A station of a profile RUNNING on a running line at S = 190 with an ACTIVE idle link and the supply READY. -/
def station (p : Profile) (count : Count) : State :=
  { State.reset with
    belt.count := count
    belt.windowList := #v[188, 190, 191, 193]
    belt.speed := 190
    belt.motion := .running
    belt.windowTimer := some 160
    link.state := .active
    link.run := some 0
    members.adopted := p.fallback
    bar.transfer := none
    port.profile := some p
    port.station := .running }

/-- A bar's station with its supply READY and the pilot open. -/
def charged (p : Profile) (count : Count) : State :=
  { station p count with air.supply := .ready, bar.pilot := true, bar.again := false }

/-- A track of a piece with nothing decided. -/
def pieceTrack (key : Nat) (id : PieceId) (d : Count) (length laneLo laneHi : Nat) : Track :=
  { newTrack key id ⟨d, length, laneLo, laneHi⟩ none false false with source := some 20000 }

/-- A set of valves. -/
def valves (vs : List Nat) : ValveSet := vs.foldl (fun a v => a ||| valveBit v) 0

/-- A schedule entry. -/
def entry (track : Nat) (state : EntryState) (openCount closeCount : Count) (vs : ValveSet) (priority : Nat) : Entry :=
  { track := track
    cls := 4
    priority := priority
    state := state
    openCount := openCount
    closeCount := closeCount
    pMin := 36
    pMax := 475
    valves := vs
    drive := if state = .opened then vs else 0
    trimmed := false
    clamped := false
    cut := false
    weak := false
    guard := if state = .opened then some 400 else none }

/-- What a command leaves passes a check. -/
def leaves (c : Instr) (s : State) (check : State → Bool) : Bool :=
  match exec c s with
  | .next t => check t
  | .fault _ => false
  | .refused _ => false

/-! ### Operand checks -/

theorem test_wf_run_of_start_of_frame : Instr.wf (.startOfFrame 9) = false ∧ Instr.wf (.startOfFrame 10) = true := by decide
theorem test_wf_run_of_lowered_count : Instr.wf (.requiredCountLowered 0) = false ∧ Instr.wf (.requiredCountLowered 1) = true := by
  decide
theorem test_wf_run_of_slot_start : Instr.wf (.slotStart 0) = false ∧ Instr.wf (.slotStart 1) = true := by decide
theorem test_wf_frame_length :
    Instr.wf (.frameReceived [0, 0, 0]) = false ∧ Instr.wf (.frameReceived (List.replicate 25 0)) = false
      ∧ Instr.wf (.frameReceived [0, 0, 0, 0]) = true := by decide
theorem test_wf_run_of_discard :
    Instr.wf (.frameDiscarded .quietInside 11) = false ∧ Instr.wf (.frameDiscarded .quietInside 10) = true := by decide
theorem test_wf_transfer_length :
    Instr.wf (.transferComplete (List.replicate 8 0)) = false ∧ Instr.wf (.transferComplete (List.replicate 9 0)) = true := by
  decide +kernel
theorem test_wf_command_code :
    Instr.wf (.badCommandCode 1 []) = false ∧ Instr.wf (.badCommandCode 13 []) = false
      ∧ Instr.wf (.badCommandCode 0 []) = true ∧ Instr.wf (.badCommandCode 14 []) = true := by decide
theorem test_wf_argument_length : ∀ arg, arg.length = 65536 → Instr.wf (.start arg) = false := by
  intro arg h; simp [Instr.wf, argumentFits, h]

/-! ### Operand forms -/

/-- R79: the check over the nine digits has the value that this polynomial and start give in general use. -/
theorem test_check_of_the_nine_digits :
    crc [0x31, 0x32, 0x33, 0x34, 0x35, 0x36, 0x37, 0x38, 0x39] = 0x29B1#16 := by decide +kernel

/-- §1.8: node 2 reports line position 21,000, and node 5 places the piece at 1,127,000. -/
theorem test_line_position_between_two_stations :
    linePositionAt 20000 4120000 4119000 = 21000 ∧ pieceD (station combined 0) 1120000 21000 = 1127000 := by
  decide +kernel

/-- 06 §6.2: the bytes of a CLAIM for piece 2:417 and class 4 from node 2, by hand: class 0, kind 3, origin 2, length 3. -/
theorem test_claim_frame_bytes : headedBytes 2 (.claim ⟨2, 417⟩ 4) = [0x0C, 0x83, 0x21, 0xA1, 0x04] := by decide +kernel

/-- R163: bit 7 of byte 0 opens the pilot, bit i of byte k is valve 8 (k - 1) + i, sent and returned. -/
theorem test_transfer_layout :
    transferBytes (valves [0, 9, 63]) true = [0x80, 0x01, 0x02, 0, 0, 0, 0, 0, 0x80]
      ∧ faultMaskOf [0, 0x01, 0x02, 0, 0, 0, 0, 0, 0x80] = valves [0, 9, 63] := by decide +kernel

/-- R189, R191: REMOVE OUTCOMES 4 with a filler byte after it, one whose argument is cut short, and a code outside 1 to 13. -/
theorem test_command_frames :
    transactionCommand [10, 0, 1, 4, 0xFF] = .removeOutcomes [4] ∧ transactionCommand [10, 0, 2, 4] = .portTransactionAbandoned
      ∧ transactionCommand [14, 0, 0] = .badCommandCode 14 [] := by decide +kernel

/-- R1: stepping down from 0 gives 4,294,967,295, and both phases changed at once give no movement. -/
theorem test_belt_count_wraps :
    leaves (.encoderEdge .reverse) State.reset (fun t => t.belt.count = 4294967295) = true
      ∧ leaves (.encoderEdge .bothChanged) State.reset (fun t => t.belt.count = 0) = true := by decide +kernel

/-! ### Worked sequences, one step each -/

/-- §1.7, w3: the list 192, 150, 90, 30 gives S = 115, below S_min: SLOW. -/
theorem test_window_end_slows :
    leaves .speedWindowEnd
      { station combined 0 with belt.windowList := #v[192, 192, 150, 90], belt.forward := 30 }
      (fun t => t.belt.speed = 115 && t.belt.motion = .slow && t.belt.zeroRun = 0 && t.belt.windowTimer = some 320) = true := by
  decide +kernel

/-- §1.7, w5: the second window without movement declares STOPPED with S = 30, and LINE_STOPPED is set. -/
theorem test_window_end_stops :
    leaves .speedWindowEnd
      { station combined 0 with belt.windowList := #v[150, 90, 30, 0], belt.zeroRun := 1, belt.motion := .slow }
      (fun t => t.belt.speed = 30 && t.belt.motion = .stopped && t.port.flags = 0x0400#16) = true := by decide +kernel

/-- R5: the first window without movement after START, the zero run 1 and S = 0, declares SLOW (assumption log 37). -/
theorem test_first_window_at_rest_is_slow :
    leaves .speedWindowEnd
      { station combined 0 with belt.windowList := Vector.replicate 4 0, belt.speed := 0, belt.motion := .stopped }
      (fun t => t.belt.motion = .slow && t.belt.zeroRun = 1 && t.port.flags = 0) = true := by decide +kernel

/-- §1.7, w9: REVERSING is left, S = 10, and the strobe that waited is issued at 1,000,029 as scan 5001. -/
theorem test_window_end_leaves_reversing :
    leaves .speedWindowEnd
      { station combined 1000029 with
        belt.windowList := #v[0, 0, 0, 0]
        belt.forward := 40
        belt.motion := .reversing
        belt.beganReversing := true
        belt.scanNumber := 5000
        belt.nextStrobe := 1000004 }
      (fun t => t.belt.speed = 10 && t.belt.motion = .slow && t.belt.nextStrobe = 1000037
        && t.belt.ring = [(5001, 1000029)]) = true := by decide +kernel

/-- The bridge of §2.7 with the ring entries its records name. -/
def sensing : State :=
  { station { bridge with node := 2 } 2040210 with
    belt.scanNumber := 5131
    belt.ring :=
      [(4876, 2038164), (4900, 2038356), (5120, 2040116), (5126, 2040164), (5130, 2040196), (5131, 2040204)]
    intake.queue := [.arrival ⟨0, 0⟩, .arrival ⟨0, 0⟩] }

/-- §2.7, record a: lead 5120, trail 5126, lanes 100 to 131, two pairs: D 2,040,116 and length 56. -/
theorem test_record_a_joins :
    leaves (.recordComplete [0x12, 0x14, 0x00, 0x14, 0x06, 100, 131, 0x04, 200, 0x05, 40] (.released false)) sensing
      (fun t => t.intake.queue.drop 2
        = [.detection ⟨2040116, 56, 100, 131, [⟨4, 200⟩, ⟨5, 40⟩], false⟩]) = true := by decide +kernel

/-- §2.7, records c, d and f: STALE; MALFORMED by the order of the scans; MALFORMED by the length. -/
theorem test_records_c_d_f_are_counted :
    leaves (.recordComplete [0x10, 0x13, 0x06, 0x13, 0x10, 1, 2] (.released false)) sensing (fun t => t.intake.stale = 1) = true
      ∧ leaves (.recordComplete [0x10, 0x14, 0x00, 0x13, 0xFE, 1, 2] (.released false)) sensing (fun t => t.intake.malformed = 1) = true
      ∧ leaves (.recordComplete [0x12, 0x14, 0x00, 0x14, 0x06, 1, 2, 0x04, 200] (.released false)) sensing
          (fun t => t.intake.malformed = 1) = true := by decide +kernel

/-- §2.8, steps 3 and 8: fills at their low levels advance the counter, and the third strobe returns the mode to FULL. -/
theorem test_strobe_returns_to_full :
    leaves .scanStrobe
        { station combined 8 with
          engine.mode := .quick
          intake.queue := List.replicate 4 (.arrival ⟨0, 0⟩)
          accept.general := List.replicate 6 ⟨.confirm ⟨1, 1⟩ 0 .arrived, 1, 0, false⟩ }
        (fun t => t.engine.mode = .quick && t.engine.returnCounter = 1) = true
      ∧ leaves .scanStrobe { station combined 8 with engine.mode := .quick, engine.returnCounter := 2 }
        (fun t => t.engine.mode = .full && t.engine.returnCounter = 0 && t.belt.nextStrobe = 16) = true := by decide +kernel

/-- Peers of §3.11: node 1 (XRT), node 2 (NIR) and node 4 (HEIGHT), all PRESENT. -/
def peerAt (datum : BitVec 24) (sense eject : Bool) (primary : ClassSet) : Peer :=
  { state := .present
    content := some ⟨sense, eject, false, 100, datum, 190, primary, 0, .full, false, false, .ready⟩
    arrival := some 0
    deadline := some 1500
    missed := 0 }

/-- The colour bridge of §3.11 at a belt count, with a track table. -/
def colourBridge (count : Count) (tracks : List Track) : State :=
  { station { bridge with node := 3, datum := 24000 } count with
    members.peers :=
      (((Vector.replicate 16 Peer.empty).set 1 (peerAt 22000 true false 0)).set 2 (peerAt 20000 true false 0)).set 4
        (peerAt 26000 true false 0)
    engine.ownSequence := 89
    engine.tracks := tracks
    engine.nextKey := 10
    engine.turn := .general }

/-- §3.11, step 1: the PIECE of node 2 becomes track 2:417 at D 5,000,800 with position source 20,000. -/
theorem test_piece_creates_a_track :
    leaves .pieceEntryTaken
      { colourBridge 5000010 [pieceTrack 1 ⟨3, 88⟩ 4994000 60 10 25] with
        accept.general := [⟨.piece 23200 ⟨⟨2, 417⟩, 240, 104, 140, 1, .full, false, []⟩, 2, 5000000, false⟩] }
      (fun t => t.engine.tracks.map (fun u => (u.primary, u.d, u.length, u.source))
        = [(⟨3, 88⟩, 4994000, 60, some 20000), (⟨2, 417⟩, 5000800, 240, some 20000)]) = true := by decide +kernel

/-- §3.11, step 3: the local detection refines the track and is announced with deadline 5,004,030. -/
theorem test_detection_refines_the_track :
    leaves .detectionEntryTaken
      { colourBridge 5001030 [pieceTrack 1 ⟨2, 417⟩ 5000800 240 104 140] with
        intake.queue := [.detection ⟨5000790, 232, 100, 131, [], false⟩] }
      (fun t => t.engine.tracks.map (fun u => (u.d, u.length, u.laneLo, u.laneHi, u.source, u.contributors))
          == [(5000790, 232, 100, 131, some 24000, [(3, 3)])]
        && t.link.slots.map (·.deadline) = [some 5004030]) = true := by decide +kernel

/-- §3.11, steps 4 and 5: a free alias slot merges the IDs, the lower becoming primary; a taken one splits the track. -/
theorem test_piece_merges_or_splits :
    leaves .pieceEntryTaken
        { colourBridge 5001410 [{ pieceTrack 1 ⟨2, 417⟩ 5000790 232 100 131 with source := some 24000 }] with
          accept.general := [⟨.piece 24614 ⟨⟨1, 90⟩, 248, 102, 133, 2, .full, false, []⟩, 1, 5001400, false⟩] }
        (fun t => t.engine.tracks.map (fun u => (u.primary, u.aliasId, u.d, u.contributors))
          = [(⟨1, 90⟩, some ⟨2, 417⟩, 5000790, [(1, 2)])]) = true
      ∧ leaves .pieceEntryTaken
        { colourBridge 5003110
            [{ pieceTrack 1 ⟨1, 90⟩ 5000790 232 100 131 with source := some 24000, aliasId := some ⟨2, 417⟩ }] with
          accept.general := [⟨.piece 26306 ⟨⟨4, 12⟩, 240, 101, 130, 4, .full, false, []⟩, 4, 5003100, false⟩] }
        (fun t => t.engine.tracks.map (fun u => (u.primary, u.d, u.split, u.source))
          = [(⟨1, 90⟩, 5000790, true, some 24000), (⟨4, 12⟩, 5000794, true, some 26000)]) = true := by decide +kernel

/-- §3.12: FULL takes the candidate of score 3,040, QUICK the first in table order. -/
theorem test_detection_match_by_mode :
    let s := colourBridge 6000400 [pieceTrack 1 ⟨2, 501⟩ 6000000 200 40 70, pieceTrack 2 ⟨2, 502⟩ 6000150 300 60 90]
    let x : Extent := ⟨6000160, 160, 62, 80⟩
    (s.engine.tracks.map (overlapScore x) = [360, 3040])
      ∧ (matchDetection .full x s).map (·.key) = some 2 ∧ (matchDetection .quick x s).map (·.key) = some 1 := by decide +kernel

/-- §4.6: the NIR report and then the colour report, overlap factor 14, leave 2,793, 480 and 262, margin 2,313. -/
theorem test_evidence_arithmetic :
    let acc := addPairs 12 16 [⟨9, 200⟩, ⟨10, 40⟩] (Vector.replicate 16 0)
    let t := pieceTrack 1 ⟨2, 417⟩ 0 240 104 140
    let f := overlapFactor .full ⟨0, 232, 100, 131, [], false⟩ t
    let end_ := addPairs 5 f [⟨9, 90⟩, ⟨11, 60⟩] acc
    f = 14 ∧ decisionOf combined .full acc = .decided 9 1920 .full
      ∧ (end_[9], end_[10], end_[11]) = (2793, 480, 262) ∧ decisionOf combined .full end_ = .decided 9 2313 .full := by
  decide +kernel

/-- §7.7, 480 ms: a PRESENT peer of period 100 ms is doubted, with the next deadline at 580 ms, and PEER_CHANGE is set. -/
theorem test_missed_peer_is_doubted :
    leaves (.supervisionDeadline 3)
      { station combined 0 with
        clock := 4800
        members.peers := State.reset.members.peers.set 3 { peerAt 24000 true false 0 with deadline := some 4800 } }
      (fun t => t.members.peers[3].state = .doubtful1 && t.members.peers[3].missed = 1
        && t.members.peers[3].deadline = some 5800 && t.port.flags = 0x0004#16) = true := by decide +kernel

/-- §9.9's map: valve 27 COVERED_RIGHT, every other valve ACTIVE. -/
def mapOf99 : ValveMap :=
  { ValveMap.reset with valve := ValveMap.reset.valve.set 27 { Valve.fresh with descriptor := .coveredRight } }

/-- §9.9's bar at belt count 1,004,000 with entries A and B. -/
def barOf99 : State :=
  { charged { combined with node := 5, primary := 0xFFFF } 1004000 with
    valves := mapOf99
    engine.tracks :=
      [pieceTrack 7 ⟨2, 417⟩ 1000000 240 100 131, pieceTrack 8 ⟨1, 1⟩ 1000000 240 40 60, pieceTrack 9 ⟨1, 2⟩ 1000000 240 160 175]
    engine.nextKey := 10
    sched.entries :=
      [entry 8 .armed 1006300 1006500 (valves [10, 11, 12, 13, 14]) 3, entry 9 .armed 1006400 1006700 (valves [40, 41, 42, 43]) 3] }

/-- §9.9: the request is trimmed to seven valves and placed between A and B, window 1,006,350 to 1,006,663. -/
theorem test_request_trimmed_to_fit :
    let r := requestEntry (pieceTrack 7 ⟨2, 417⟩ 1000000 240 100 131) 4 barOf99
    r.2 = .admitted 1006350
      ∧ r.1.sched.entries.map (fun e => (e.track, e.openCount, e.closeCount, e.pMin, e.pMax))
        = [(8, 1006300, 1006500, 36, 475), (7, 1006350, 1006663, 36, 475), (9, 1006400, 1006700, 36, 475)]
      ∧ r.1.sched.entries.map (fun e => (valveList e.valves, e.trimmed))
        = [([10, 11, 12, 13, 14], false), ([25, 26, 28, 29, 30, 31, 32], true), ([40, 41, 42, 43], false)]
      ∧ r.1.sched.lastPeak = 16 ∧ r.1.sched.trimmed = 1 := by decide +kernel

/-- §9.10: trimming stops at the core width of 6, and of E1 and E2 the one of lowest priority is displaced. -/
theorem test_request_displaces_the_lowest :
    let p := { combined with node := 5, coreWidth := 6 }
    let s :=
      { charged p 2296000 with
        engine.tracks :=
          [pieceTrack 1 ⟨1, 1⟩ 2294000 240 0 9, pieceTrack 2 ⟨1, 2⟩ 2294000 240 0 9, pieceTrack 3 ⟨1, 3⟩ 2294000 240 0 9]
        engine.nextKey := 10
        sched.entries :=
          [entry 3 .opened 2300100 2300900 (valves [50, 51, 52, 53]) 3, entry 1 .armed 2300400 2300900 (valves [1, 2, 3, 4, 5]) 2,
            entry 2 .reserved 2300450 2300900 (valves [40, 41, 42, 43]) 1] }
    let r := admission (pieceTrack 7 ⟨2, 9⟩ 2294000 240 72 103) 7 ⟨2300350, 2300800, 36, 475, false⟩
      (valves [18, 19, 20, 21, 22, 23, 24, 25]) s
    r.2 = .admitted 2300350 ∧ r.1.sched.entries.map (·.track) = [3, 7, 1] ∧ r.1.sched.displaced = 1
      ∧ r.1.sched.entries.map (fun e => valveCount e.valves) = [4, 6, 5]
      ∧ r.1.port.outcomes.map (·.result) = [.displaced] := by decide +kernel

/-- §9.11: the first request wakes the supply and is refused, its open count 1,500 counts ahead of a charge distance of 1,800. -/
theorem test_request_wakes_the_supply :
    let s := { station combined 3000000 with belt.speed := 192 }
    let r := requestEntry (pieceTrack 7 ⟨2, 9⟩ 2995150 240 100 131) 4 s
    r.2 = .refused .supply 3001500 10 ∧ r.1.air.supply = .charging ∧ r.1.air.chargeTimer = some 3000 := by decide +kernel

/-- §10.2: the first edit aborts at valve 27, its cover gone; the second is applied. -/
theorem test_two_edits :
    editFault [(29, 1), (28, 2)] mapOf99.valve = some (.badCover 27)
      ∧ leaves (.editValveMap [3, 29, 1, 27, 0, 28, 2]) { station combined 0 with valves := mapOf99 }
        (fun t => t.valves.valve[27].descriptor = .active && t.valves.valve[28].descriptor = .coveredLeft
          && t.valves.valve[29].descriptor = .retired && t.valves.edits = 1
          && valveList (valveSetOf t.valves 2 100 131) = [24, 25, 26, 27, 30, 31, 32, 33]) = true := by decide +kernel

/-- §10.3: the cover valve 28 fails, and auto-cover gives 27 to 26 and 28 to 29. -/
theorem test_cover_valve_fails :
    leaves (.transferComplete (transferBytes (valves [28]) false))
      { station { combined with autoCover := true } 0 with
        valves := mapOf99
        bar.transfer := some (transferBytes 0 false)
        sched.entries := [entry 7 .opened 0 100 (valves [25, 26, 28, 29, 30, 31, 32]) 3] }
      (fun t => t.valves.valve[27].descriptor = .coveredLeft && t.valves.valve[28].descriptor = .coveredRight
        && t.valves.valveFaults = 1 && t.valves.autoCovers = 2 && t.port.flags = 0x0008#16
        && t.sched.entries.map (fun e => valveList e.drive) = [[25, 26, 29, 30, 31, 32]]
        && t.sched.entries.map (fun e => valveList e.valves) = [[25, 26, 28, 29, 30, 31, 32]]) = true := by decide +kernel

/-- §10.7's station with its lists. -/
def chuteStation (count : Count) (expectations : List Expectation) (held : List HeldArrival) : State :=
  { station { checker with node := 12 } count with
    chute.expectations := expectations
    chute.held := held
    chute.nextAge := 5 }

/-- §10.7, steps a and e: a firing with no held arrival waits; one whose window holds an arrival is confirmed ARRIVED. -/
theorem test_firings_heard :
    leaves .firedEntryTaken
        { chuteStation 7200105 [] [] with
          accept.urgent := [⟨.fired 90 ⟨⟨2, 417⟩, false, false, false, false, 25, 32, 7⟩, 5, 7200100, false⟩] }
        (fun t => t.chute.expectations.map (fun e => (e.id, e.earliest, e.latest)) = [(⟨2, 417⟩, 7200210, 7200610)]) = true
      ∧ leaves .firedEntryTaken
        { chuteStation 7200525 [] [⟨7200180, 7200780⟩, ⟨7200500, 7201100⟩] with
          accept.urgent := [⟨.fired 240 ⟨⟨1, 91⟩, false, false, false, false, 40, 43, 4⟩, 5, 7200520, false⟩] }
        (fun t => t.chute.held = [⟨7200180, 7200780⟩] && t.chute.expectations = []
          && t.link.slots.map (·.notice) = [.confirm ⟨1, 91⟩ 1 .arrived]) = true := by decide +kernel

/-- §10.7, steps b and c: an arrival before the window is held, one inside it confirms the firing. -/
theorem test_arrivals_met :
    leaves .arrivalEntryTaken
        { chuteStation 7200200 [⟨⟨2, 417⟩, 7200210, 7200610, 1⟩] [] with intake.queue := [.arrival ⟨7200180, 1⟩] }
        (fun t => t.chute.held = [⟨7200180, 7200780⟩]) = true
      ∧ leaves .arrivalEntryTaken
        { chuteStation 7200400 [⟨⟨2, 417⟩, 7200210, 7200610, 1⟩] [] with intake.queue := [.arrival ⟨7200352, 1⟩] }
        (fun t => t.chute.expectations = [] && t.chute.arrived = 1
          && t.link.slots.map (·.notice) = [.confirm ⟨2, 417⟩ 1 .arrived]) = true := by decide +kernel

/-- An outcome record. -/
def record : OutcomeRecord :=
  { id := ⟨2, 417⟩
    cls := 4
    mode := .full
    decisionMode := .full
    result := .fired
    trimmed := true
    clamped := false
    cut := false
    weak := false
    lateEvidence := false
    valveCount := 7
    openCount := 1006350
    margin := 0 }

/-- §11.4, steps e and g: a record at a full queue is lost and flagged; REMOVE OUTCOMES 4 leaves 28 and clears the flag. -/
theorem test_outcomes_lost_and_removed :
    let full := { station combined 0 with port.outcomes := List.replicate 32 record }
    ((putOutcome record full).port.lostOutcomes = 1 ∧ (putOutcome record full).port.flags = 0x0002#16)
      ∧ leaves (.removeOutcomes [4]) { full with port.flags := 0x0002#16 }
        (fun t => t.port.outcomes.length = 28 && t.port.response = [0, 0, 2, 4, 28] && t.port.flags = 0
          && eventFlags t = 1#16) = true := by decide +kernel

/-- A held slot. -/
def slotOf (handle : Nat) (status : SlotStatus) (n : Notice) : Slot :=
  { handle := handle
    status := status
    notice := n
    deadline := none
    deadlineMet := false
    failedAttempts := 0
    latch := some 500 }

/-- A heartbeat. -/
def beat : Heartbeat := ⟨true, false, false, 100, 24000, 190, 0, 0, .full, false, false, .ready⟩

/-- A CLAIM, a RELEASE, a CONFIRM, a FIRED and a PIECE of one piece. -/
def claimOf : Notice := .claim ⟨2, 417⟩ 4
/-- See `claimOf`. -/
def confirmOf1 : Notice := .confirm ⟨2, 417⟩ 1 .arrived
/-- See `claimOf`. -/
def releaseOf1 : Notice := .release ⟨2, 417⟩ .stopped
/-- See `claimOf`. -/
def firedOf1 : Notice := .fired 900 ⟨⟨2, 417⟩, false, false, false, false, 25, 28, 3⟩
/-- See `claimOf`. -/
def pieceOf1 : Notice := .piece 900 ⟨⟨2, 417⟩, 240, 100, 131, 1, .full, false, []⟩

/-! ### Witnesses: concrete values that meet the hypotheses of each statement, clause by clause -/

/-- A station's state in its place. -/
def inStation (st : Station) (s : State) : State := { s with port.station := st }

theorem witness_EncoderEdgeStepsTheBeltCount :
    State.reset.belt.windowTimer = none
      ∧ ((station combined 0).belt.windowTimer.isSome = true ∧ (station combined 0).belt.motion = .running
        ∧ (station combined 0).port.station = .running) := by decide

/-- A window that may leave REVERSING. -/
def reversed (forward reverse : Nat) : State :=
  { station combined 0 with
    belt.motion := .reversing
    belt.beganReversing := true
    belt.forward := forward
    belt.reverse := reverse }

theorem witness_DueStrobeIsIssued :
    ((station combined 0).port.station = .running ∧ reached (station combined 0) (station combined 0).belt.nextStrobe = true
        ∧ (station combined 0).belt.motion ≠ .reversing ∧ (station combined 0).belt.strobeWord = none)
      ∧ (let s := { station combined 0 with belt.nextStrobe := 1 }
        ¬(s.port.station = .running ∧ reached s s.belt.nextStrobe = true ∧ s.belt.motion ≠ .reversing
          ∧ s.belt.strobeWord = none))
      ∧ ({ station combined 0 with belt.strobeWord := some 7 } : State).belt.strobeWord ≠ none := by decide

/-- Record a of §2.7. -/
def recordA : List Byte := [0x12, 0x14, 0x00, 0x14, 0x06, 100, 131, 0x04, 200, 0x05, 40]

/-- Record g of §2.7. -/
def recordG : List Byte := [0x21, 0x14, 0x09]

/-- The bridge of §2.7 with the CHECK role, its queue one short of full. -/
def nearlyFull : State :=
  { sensing with
    port.profile := some { bridge with check := true }
    intake.queue := List.replicate 31 (.arrival ⟨0, 0⟩)
    belt.ring := [(5120, 2040116), (5126, 2040164), (5129, 2040188)] }

theorem witness_GoodRecordsJoinTheIntakeQueue :
    (nearlyFull.intake.reception = .idle ∧ recordA = [] ++ recordA ∧ recordA = recordA.take 4 ++ recordA.drop 4)
      ∧ ({ nearlyFull with intake.reception := .receiving (recordA.take 4) } : State).intake.reception
        = .receiving (recordA.take 4)
      ∧ (malformed recordA false nearlyFull = false ∧ scanCounts recordA nearlyFull = some (2040116, 2040164)
        ∧ nearlyFull.intake.queue.length < 32 ∧ u8 recordA 0 / 16 = 1 ∧ nearlyFull.port.station = .running)
      ∧ (let s := inStation .halting nearlyFull
        malformed recordA false s = false ∧ scanCounts recordA s = some (2040116, 2040164)
          ∧ s.intake.queue.length < 32 ∧ s.port.station = .halting)
      ∧ (malformed recordG false nearlyFull = false ∧ scanCounts recordG nearlyFull = some (2040188, 2040188)
        ∧ u8 recordG 0 / 16 = 2) := by decide +kernel

theorem witness_BadRecordsAreCountedAndDiscarded :
    ({ State.reset with intake.reception := .abandoned } : State).intake.reception = .abandoned
      ∧ (State.reset.intake.reception = .idle ∧ sensing.intake.reception = .idle ∧ nearlyFull.intake.reception = .idle)
      ∧ (State.reset.port.station ≠ .running ∧ State.reset.port.station ≠ .halting)
      ∧ (sensing.port.station = .running ∧ u8 [0x15] 0 / 16 = 1 ∧ 4 < u8 [0x15] 0 % 8)
      ∧ (malformed [0x10, 0x13, 0x06, 0x13, 0x10, 1, 2] false sensing = false
        ∧ scanCount sensing (leadScan [0x10, 0x13, 0x06, 0x13, 0x10, 1, 2]) = none)
      ∧ (let s := { nearlyFull with intake.queue := List.replicate 32 (.arrival ⟨0, 0⟩) }
        malformed recordA false s = false ∧ (scanCounts recordA s).isSome = true ∧ 32 ≤ s.intake.queue.length
          ∧ s.port.station = .running) := by decide +kernel

/-- A bar with one track, whose retirement count is 1,006,240 and decision point 1,004,000, at a belt count. -/
def oneTrack (count : Count) (t : Track) : State :=
  { charged combined count with engine.tracks := [t], engine.nextKey := 10 }

/-- The track of §9.9. -/
def track99 : Track := pieceTrack 7 ⟨2, 417⟩ 1000000 240 100 131

/-- The same bar with an entry of the track in its schedule. -/
def oneEntry (count : Count) (t : Track) (e : Entry) : State :=
  { oneTrack count t with
    sched.entries := [e]
    bar.drive := if e.state = .opened then e.drive else 0 }

/-- An entry of the track of §9.9. -/
def entry99 (state : EntryState) : Entry := entry 7 state 1006350 1006663 (valves [25, 26, 28]) 3

theorem witness_WindowEndMeasuresTheSpeed :
    State.reset.belt.windowTimer = none
      ∧ ((station combined 0).belt.windowTimer = some 160 ∧ (station combined 0).belt.motion ≠ .reversing)
      ∧ (let s := reversed 1 0
        s.belt.windowTimer = some 160 ∧ s.belt.motion = .reversing ∧ s.belt.reverseFree = true ∧ s.port.station = .running
          ∧ reached s s.belt.nextStrobe = true ∧ s.belt.strobeWord = none)
      ∧ ((reversed 1 1).belt.windowTimer = some 160 ∧ (reversed 1 1).belt.motion = .reversing)
      ∧ (let s := { oneEntry 1006400 track99 (entry99 .opened) with belt.zeroRun := 1 }
        s.belt.windowTimer = some 160 ∧ s.belt.motion = .running ∧ s.belt.forward = s.belt.reverse
          ∧ s.port.station = .running ∧ ∃ e ∈ s.sched.entries, e.state = .opened) := by decide

theorem witness_RetirementTakesAnUnlinkedTrackOut :
    (let s := oneTrack 1006240 track99;
      trackOf ⟨2, 417⟩ s = some track99 ∧ s.port.station = .running
        ∧ reached s (track99.d + BitVec.ofNat 32 track99.length + BitVec.ofNat 32 (prof s).horizon) = true
        ∧ ∀ e ∈ s.sched.entries, e.track ≠ track99.key)
      ∧ (let s := oneEntry 1006240 track99 (entry99 .armed)
        trackOf ⟨2, 417⟩ s = some track99 ∧ s.port.station = .running
          ∧ reached s (track99.d + BitVec.ofNat 32 track99.length + BitVec.ofNat 32 (prof s).horizon) = true
          ∧ ∃ e ∈ s.sched.entries, e.track = track99.key)
      ∧ (let s := oneTrack 1006239 track99
        trackOf ⟨2, 417⟩ s = some track99
          ∧ reached s (track99.d + BitVec.ofNat 32 track99.length + BitVec.ofNat 32 (prof s).horizon) = false) := by
  decide +kernel

/-- The PIECE of §3.11, step 1. -/
def piece311 : QueueEntry := ⟨.piece 23200 ⟨⟨2, 417⟩, 240, 104, 140, 1, .full, false, []⟩, 2, 5000000, false⟩

/-- The bridge of §3.11 with that PIECE waiting. -/
def pieceWaits (count : Count) (e : QueueEntry) : State :=
  { colourBridge count [pieceTrack 1 ⟨3, 88⟩ 4994000 60 10 25] with accept.general := [e] }

theorem witness_PieceEntriesThatAreDiscarded :
    (let s := inStation .halting (pieceWaits 5000010 piece311);
      BarInStep s ∧ takeFirst isPiece s.accept.general = some (piece311, []) ∧ s.engine.turn = .general
        ∧ s.port.station = .halting)
      ∧ (let s := pieceWaits 5000010 { piece311 with own := true }
        BarInStep s ∧ takeFirst isPiece s.accept.general = some ({ piece311 with own := true }, [])
          ∧ s.port.station = .running)
      ∧ (let s := pieceWaits 5007040 piece311
        BarInStep s ∧ takeFirst isPiece s.accept.general = some (piece311, []) ∧ s.engine.turn = .general
          ∧ s.port.station = .running ∧ piece311.own = false ∧ (prof s).sense = true
          ∧ reached s
            (piece311.latch + BitVec.ofNat 32 (prof s).datum.toNat - BitVec.ofNat 32 (23200 : BitVec 24).toNat
              + BitVec.ofNat 32 (240 : BitVec 12).toNat + BitVec.ofNat 32 (prof s).horizon) = true) := by
  unfold BarInStep; decide +kernel

/-- A table of 128 tracks of one owner. -/
def fullTable (owner : Option Node) : List Track :=
  (List.range 128).map fun k => { pieceTrack k ⟨9, Fin.ofNat 4096 k⟩ 4999000 60 10 25 with owner := owner }

/-- The PIECE of §3.11, step 7, of node 4, and that of step 4, of node 1. -/
def pieceFrom4 : QueueEntry := ⟨.piece 26306 ⟨⟨4, 12⟩, 240, 101, 130, 4, .full, false, []⟩, 4, 5003100, false⟩
/-- See `pieceFrom4`. -/
def pieceFrom1 : QueueEntry := ⟨.piece 24614 ⟨⟨1, 90⟩, 248, 102, 133, 2, .full, false, []⟩, 1, 5001400, false⟩

/-- The track of §3.11 before and after the PIECE of node 1. -/
def refined311 : Track := { pieceTrack 1 ⟨2, 417⟩ 5000790 232 100 131 with source := some 24000 }
/-- See `refined311`. -/
def merged311 : Track := { refined311 with primary := ⟨1, 90⟩, aliasId := some ⟨2, 417⟩ }

/-- The bridge of §3.11 with a table of tracks and a PIECE waiting. -/
def bridgeWith (tracks : List Track) (e : QueueEntry) : State :=
  { colourBridge 5003110 tracks with accept.general := [e], engine.nextKey := 200 }

theorem witness_PieceNoticesJoinTheTrackTable :
    (∀ c ∈ [([refined311], pieceFrom1), ([merged311], pieceFrom4), ([refined311], piece311), ([], piece311),
        (fullTable none, piece311), (fullTable (some 3), piece311)],
      TableLawful (bridgeWith c.1 c.2))
      ∧ (Replaces (some 26000) (some 24000) ∧ ¬ Replaces (some 20000) (some 24000))
      ∧ (∀ c ∈ [([refined311], pieceFrom1), ([merged311], pieceFrom4), ([refined311], piece311), ([], piece311),
        (fullTable none, piece311), (fullTable (some 3), piece311)],
      let s := bridgeWith c.1 c.2
      BarInStep s ∧ s.port.station = .running ∧ s.engine.turn = .general ∧ (prof s).sense = true
        ∧ (prof s).eject = false ∧ takeFirst isPiece s.accept.general = some (c.2, []) ∧ c.2.own = false)
      ∧ (let s := { station combined 5000010 with engine.mode := .quick, accept.general := [piece311] }
        s.engine.mode = .quick
          ∧ reached s (5004800 + BitVec.ofNat 32 (prof s).barOffset - BitVec.ofNat 32 (prof s).decisionLead) = false)
      -- the ID is known, and the position comes from a larger datum, or from no larger one
      ∧ ((⟨2, 417⟩ : PieceId) ∈ idsOf refined311 ∧ refined311.own ≠ .owned
        ∧ reached (bridgeWith [refined311] piece311)
          (refined311.d + BitVec.ofNat 32 refined311.length
            + BitVec.ofNat 32 (prof (bridgeWith [refined311] piece311)).horizon) = false)
      -- the ID is unknown: a candidate with a free alias, one without, none
      ∧ ((⟨1, 90⟩ : PieceId) ∉ idsOf refined311 ∧ refined311.aliasId = none
        ∧ ChosenFor (prof (bridgeWith [refined311] pieceFrom1)) ⟨5000786, 248, 102, 133⟩ [] refined311 [])
      ∧ ((⟨4, 12⟩ : PieceId) ∉ idsOf merged311 ∧ merged311.aliasId ≠ none
        ∧ ChosenFor (prof (bridgeWith [merged311] pieceFrom4)) ⟨5000794, 240, 101, 130⟩ [] merged311 [])
      -- a full table with a track that may go, and one with none
      ∧ (∀ own ∈ [none, some 3], (fullTable own).length = 128 ∧ ∀ v ∈ fullTable own,
          (⟨2, 417⟩ : PieceId) ∉ idsOf v
            ∧ isCandidate (prof (bridgeWith (fullTable own) piece311)) ⟨5000800, 240, 104, 140⟩ v = false
            ∧ (StaysAtEviction (bridgeWith (fullTable own) piece311) none v ↔ own = some 3)) := by
  refine ⟨by simp only [tableLawful_iff]; decide +kernel, by simp only [replaces_some_some]; decide, ?_, ?_, ?_, ?_, ?_, ?_⟩
  · unfold BarInStep; decide +kernel
  · decide +kernel
  · decide +kernel
  · unfold ChosenFor; decide +kernel
  · unfold ChosenFor; decide +kernel
  · unfold StaysAtEviction; decide +kernel

/-- The bridge of §3.11 with a detection waiting. -/
def detectionWaits : State :=
  { colourBridge 5001030 [pieceTrack 1 ⟨3, 88⟩ 4996000 60 10 25] with
    intake.queue := [.detection ⟨5000790, 232, 100, 131, [⟨4, 90⟩], true⟩]
    engine.turn := .intake }

/-- The bridge of §3.11 with a table of tracks and its detection waiting. -/
def detecting (mode : Mode) (tracks : List Track) : State :=
  { detectionWaits with engine.tracks := tracks, engine.nextKey := 200, engine.mode := mode }

theorem witness_DetectionsJoinTheTrackTable :
    (∀ c ∈ [(Mode.full, [{ refined311 with source := some 20000 }]), (.quick, [refined311]), (.full, []),
        (.full, [{ pieceTrack 1 ⟨3, 89⟩ 4996000 60 10 25 with aliasId := some ⟨3, 90⟩ }]), (.full, fullTable none),
        (.full, fullTable (some 3))],
      TableLawful (detecting c.1 c.2))
      ∧ (Replaces (some 24000) (some 20000) ∧ ¬ Replaces (some 24000) (some 24000))
      ∧ (∀ c ∈ [(Mode.full, [{ refined311 with source := some 20000 }]), (.quick, [refined311]), (.full, []),
        (.full, [{ pieceTrack 1 ⟨3, 89⟩ 4996000 60 10 25 with aliasId := some ⟨3, 90⟩ }]), (.full, fullTable none),
        (.full, fullTable (some 3))],
      let s := detecting c.1 c.2
      BarInStep s ∧ s.port.station = .running ∧ s.engine.turn = .intake ∧ (prof s).eject = false
        ∧ takeFirst isDetection s.intake.queue = some (.detection ⟨5000790, 232, 100, 131, [⟨4, 90⟩], true⟩, [])
        ∧ reached s (5000790 + BitVec.ofNat 32 232 + BitVec.ofNat 32 (prof s).horizon) = false
        ∧ reached s (s.belt.count + BitVec.ofNat 32 (prof s).announceLifetime) = false
        ∧ s.link.state = .active ∧ s.link.slots.length < 8)
      -- the request is refused
      ∧ 8 ≤ ({ detecting .full [] with link.slots := List.replicate 8 (slotOf 3 .pending claimOf) } : State).link.slots.length
      -- a track is matched, and the position comes from a larger datum, or from no larger one
      ∧ (ChosenFor (prof (detecting .full [])) ⟨5000790, 232, 100, 131⟩ [] refined311 []
        ∧ isCandidate (prof (detecting .quick [])) ⟨5000790, 232, 100, 131⟩ refined311 = true)
      -- no track is matched: the next own sequence number is free, or the next two are taken
      ∧ (FirstFree 3 [] 89 89
        ∧ FirstFree 3 [{ pieceTrack 1 ⟨3, 89⟩ 4996000 60 10 25 with aliasId := some ⟨3, 90⟩ }] 89 91)
      -- a full table with a track that may go, and one with none
      ∧ (∀ own ∈ [none, some 3], (fullTable own).length = 128 ∧ ∀ v ∈ fullTable own,
          isCandidate (prof (detecting .full (fullTable own))) ⟨5000790, 232, 100, 131⟩ v = false
            ∧ (StaysAtEviction (detecting .full (fullTable own)) none v ↔ own = some 3)) := by
  refine ⟨by simp only [tableLawful_iff]; decide +kernel, by simp only [replaces_some_some]; decide, ?_, ?_, ?_, ?_, ?_⟩
  · unfold BarInStep; decide +kernel
  · decide
  · unfold ChosenFor; decide +kernel
  · unfold FirstFree; decide +kernel
  · unfold StaysAtEviction; decide +kernel

/-- A track with evidence for one class. -/
def weighted (c : ClassCode) (a : Nat) (t : Track) : Track := { t with accumulators := t.accumulators.set c a }



theorem witness_PulseStaysWithinItsBounds :
    combined.minOnTime ≤ 100 ∧ combined.maxOnTime ≤ 2000 ∧ (190 : Nat) ≤ 4095
      ∧ (combined.minOnTime * 190 + 159) / 160 ≤ combined.maxOnTime * 190 / 160
      ∧ (let p := { combined with maxOnTime := 50 }
        p.maxOnTime * 2 / 160 < (p.minOnTime * 2 + 159) / 160 ∧ (windowOf p 2 1000000 20 4).clamped = true) := by
  decide +kernel

theorem witness_ValveSetsHoldActiveValves :
    mapLaw mapOf99.valve = true ∧ (valveSetOf mapOf99 2 100 131).getLsbD 28 = true := by decide +kernel

theorem witness_LoadStaysWithinThePlenumLimit :
    (∃ t, requestEntry track99 4 barOf99 = (t, .admitted 1006350))
      ∧ (let s := oneEntry 1006400 track99 (entry99 .opened)
        PlenumLawful s ∧ ∀ e ∈ s.sched.entries, e.state = .opened →
          0 ≤ (s.belt.count - e.openCount).toInt ∧ (s.belt.count - e.closeCount).toInt < 0) := by
  refine ⟨⟨(requestEntry track99 4 barOf99).1, Prod.ext rfl (by decide +kernel)⟩, ⟨fun x => ?_, ?_, ?_, ?_, ?_, ?_⟩, ?_⟩
  · show loadAt [entry99 .opened] 0 x ≤ 16
    rw [loadAt_single]
    split <;> decide +kernel
  all_goals decide +kernel

/-- A bar whose link holds slots and follows a frame, at belt count 1,000. -/
def onLine (frame : FrameState) (slots : List Slot) : State :=
  { station combined 1000 with
    link.frame := frame
    link.slots := slots
    link.nextHandle := 20
    link.txFrame := [0x0C, 0x83]
    link.run := some 12 }

theorem witness_StartOfFrameLatchesTheBeltCount :
    State.reset.link.state = .offline
      ∧ ((onLine .idle []).link.state ≠ .offline ∧ (onLine .idle []).link.frame = .idle
        ∧ (onLine .idle []).link.run = some 12 ∧ (12 : Nat) ≤ 17)
      ∧ ((onLine .starting [slotOf 3 .sending claimOf]).link.frame = .starting
        ∧ (onLine .starting [slotOf 3 .sending claimOf]).link.slots.find? (fun y => y.status ≠ .pending)
          = some (slotOf 3 .sending claimOf)) := by decide +kernel

theorem witness_QuietLineStartsTheFirstEligibleSlot :
    ((inStation .running { onLine .idle [] with link.state := .listening }).link.state ≠ .active)
      ∧ (let s := onLine .idle [slotOf 3 .pending confirmOf1]
        s.link.frame = .idle ∧ s.link.run = some 12 ∧ s.link.state = .active
          ∧ ∀ y ∈ s.link.slots, y.status ≠ .pending ∨ 13 < requiredOf (noticeClass y.notice) (observeRun 13 s))
      ∧ (let s := onLine .idle [slotOf 3 .pending confirmOf1, slotOf 4 .pending claimOf, slotOf 5 .pending releaseOf1]
        let u := observeRun 14 s
        s.link.slots = [slotOf 3 .pending confirmOf1] ++ slotOf 4 .pending claimOf :: [slotOf 5 .pending releaseOf1]
          ∧ requiredOf (noticeClass claimOf) u ≤ 14
          ∧ (∀ y ∈ [slotOf 3 .pending confirmOf1], y.status = .pending → requiredOf (noticeClass y.notice) u ≤ 14 →
            classCode (noticeClass claimOf) < classCode (noticeClass y.notice))
          ∧ (∀ y ∈ [slotOf 5 .pending releaseOf1], y.status = .pending → requiredOf (noticeClass y.notice) u ≤ 14 →
            classCode (noticeClass claimOf) ≤ classCode (noticeClass y.notice))) := by
  decide +kernel

/-- The one slot on the line. -/
def sendingOne (frame : FrameState) (x : Slot) : State := onLine frame [x]

theorem witness_LostArbitrationReturnsTheSlot :
    (∀ x ∈ [slotOf 3 .sending claimOf, slotOf 3 .cancelPending (.heartbeat beat),
        { slotOf 3 .sending firedOf1 with deadlineMet := true }],
      BarInStep (sendingOne .starting x) ∧ (sendingOne .starting x).link.frame = .starting
        ∧ (sendingOne .starting x).link.slots.find? (fun y => y.status ≠ .pending) = some x)
      ∧ ∀ d, (slotOf 3 .sending claimOf).deadline = some d → reached (sendingOne .starting (slotOf 3 .sending claimOf)) d = false :=
  ⟨by unfold BarInStep; decide +kernel, fun _ h => nomatch h⟩

theorem witness_BitErrorsFailTheSlotAndSilenceTheLink :
    (∀ x ∈ [{ slotOf 3 .sending claimOf with failedAttempts := 1 }, { slotOf 3 .sending confirmOf1 with failedAttempts := 2 }],
      BarInStep (sendingOne .sending x) ∧ (sendingOne .sending x).link.frame = .sending
        ∧ (sendingOne .sending x).link.slots.find? (fun y => y.status ≠ .pending) = some x
        ∧ (sendingOne .sending x).link.consecutiveFailures < 15)
      ∧ (∀ d, (slotOf 3 .sending claimOf).deadline = some d → reached (sendingOne .sending (slotOf 3 .sending claimOf)) d = false)
      ∧ (let s := { sendingOne .sending (slotOf 3 .sending claimOf) with link.consecutiveFailures := 15 }
        BarInStep s ∧ 15 ≤ s.link.consecutiveFailures) :=
  ⟨by unfold BarInStep; decide +kernel, ⟨fun _ h => (nomatch h), by unfold BarInStep; decide +kernel⟩⟩

/-- An own CLAIM's record. -/
def record417 (handle : Nat) : OwnClaim :=
  { id := ⟨2, 417⟩
    cls := 4
    handle := handle
    outcomeTaken := false
    met := false
    metFirst := false
    giveUp := none
    orphan := false }

/-- The slot of a notice on the line, with both queues full and drop notices waiting. -/
def fullQueues (n : Notice) (drops : Nat) : State :=
  { sendingOne .sending (slotOf 3 .sending n) with
    accept.general := List.replicate 24 ⟨.confirm ⟨1, 1⟩ 0 .arrived, 1, 0, false⟩
    accept.urgent := List.replicate 8 ⟨.release ⟨1, 1⟩ .stopped, 1, 0, false⟩
    claim.dropNotices := List.replicate drops ⟨.fired, ⟨1, 1⟩, 0, 3⟩ }

theorem witness_SuccessfulSendsAreHandedBack :
    (∀ n ∈ [.heartbeat beat, confirmOf1, pieceOf1, releaseOf1, firedOf1, claimOf],
      (∀ s ∈ [sendingOne .sending (slotOf 3 .sending n), fullQueues n 0, fullQueues n 16],
        BarInStep s ∧ s.link.frame = .sending
          ∧ s.link.slots.find? (fun y => y.status ≠ .pending) = some (slotOf 3 .sending n))
        ∧ (slotOf 3 .sending n).latch = some 500
        ∧ (sendingOne .sending (slotOf 3 .sending n)).accept.general.length < 24
        ∧ (sendingOne .sending (slotOf 3 .sending n)).accept.urgent.length < 8
        ∧ 24 ≤ (fullQueues n 0).accept.general.length ∧ 8 ≤ (fullQueues n 0).accept.urgent.length
        ∧ (fullQueues n 15).claim.dropNotices.length < 16 ∧ 16 ≤ (fullQueues n 16).claim.dropNotices.length)
      ∧ (let s := { fullQueues claimOf 16 with claim.ownClaims := [record417 3] }
        s.claim.ownClaims.find? (fun y => y.handle = 3) = some (record417 3) ∧ (record417 3).met = false
          ∧ (record417 3).giveUp = none ∧ trackOf ⟨2, 417⟩ s = none) := by
  unfold BarInStep; decide +kernel

/-- A frame of node 5 being received by node 2 under an acceptance list. -/
def hears (list : List AcceptEntry) : State :=
  { onLine .receiving [] with port.profile := some { combined with acceptance := list } }

/-- The CLAIM on the line. -/
def claimWire : Wire := .claim ⟨2, 417⟩ 4

/-- An enabled entry that takes every notice of node 5. -/
def listEntry (action : AcceptAction) : AcceptEntry := ⟨true, 0x7C, .pair 5 5, action⟩

theorem witness_ReceivedNoticesAreJudgedAndQueued :
    (∀ list ∈ [[listEntry .drop], [], [listEntry .accept], [listEntry .acceptWatch]],
      BarInStep (hears list) ∧ (hears list).link.state ≠ .offline ∧ (hears list).link.frame = .receiving
        ∧ (hears list).accept.urgent.length < 8 ∧ (hears list).accept.general.length < 24
        ∧ 8 ≤ ({ hears list with accept := (fullQueues claimOf 0).accept } : State).accept.urgent.length
        ∧ 24 ≤ ({ hears list with accept := (fullQueues claimOf 0).accept } : State).accept.general.length)
      ∧ (∀ w ∈ [claimWire, .confirm ⟨2, 417⟩ 1 .arrived, .piece 23200 ⟨⟨2, 417⟩, 240, 104, 140, 1, .quick, false, []⟩],
        frameGood (frameBytes 5 w) = true ∧ (headerOf (frameBytes 5 w)).origin ≠ combined.node
          ∧ 1 ≤ (headerOf (frameBytes 5 w)).kind ∧ (headerOf (frameBytes 5 w)).kind ≤ 6
          ∧ wireOf (headerOf (frameBytes 5 w)).cls (headerOf (frameBytes 5 w)).kind
            (((frameBytes 5 w).drop 2).take (headerOf (frameBytes 5 w)).length) = some w
          ∧ ∀ action ∈ [AcceptAction.drop, .accept, .acceptWatch],
            entryMatches (headerOf (frameBytes 5 w)).origin w (listEntry action) = true)
      ∧ ∀ h, claimWire ≠ .heartbeat h :=
  ⟨by unfold BarInStep; decide +kernel, by decide +kernel, fun _ h => nomatch h⟩

/-- A frame whose kind code is 7, from node 5. -/
def unknownFrame : List Byte := [0x1D, 0x40] ++ bytes2 (crc [0x1D, 0x40]).toNat

/-- A frame of kind CLAIM with an empty body, from node 5. -/
def emptyClaim : List Byte := [0x0D, 0x40] ++ bytes2 (crc [0x0D, 0x40]).toNat

theorem witness_RejectedFramesAreCounted :
    (BarInStep (hears []) ∧ (hears []).link.state ≠ .offline ∧ (hears []).link.frame = .receiving)
      ∧ (onLine .receivingAbandoned []).link.frame = .receivingAbandoned ∧ frameGood [0x0D, 0x40, 0, 0] = false
      ∧ (frameGood unknownFrame = true ∧ 7 ≤ (headerOf unknownFrame).kind)
      ∧ (frameGood emptyClaim = true ∧ (headerOf emptyClaim).kind = 3 ∧ (headerOf emptyClaim).origin ≠ (prof (hears [])).node
        ∧ wireOf (headerOf emptyClaim).cls (headerOf emptyClaim).kind
          ((emptyClaim.drop 2).take (headerOf emptyClaim).length) = none) := by
  unfold BarInStep; decide +kernel

theorem witness_DuplicatesSilenceTheLink :
    (hears []).link.frame = .receiving ∧ frameGood (frameBytes 2 claimWire) = true
      ∧ (1 ≤ (headerOf (frameBytes 2 claimWire)).kind ∧ (headerOf (frameBytes 2 claimWire)).kind ≤ 6)
      ∧ (headerOf (frameBytes 2 claimWire)).origin = (prof (hears [])).node ∧ (hears []).link.state = .active
      ∧ ({ hears [] with link.state := .silent .failures } : State).link.state = .silent .failures := by decide +kernel

/-- The heartbeat that a state builds, in a new slot. -/
def beatSlot (s : State) : Slot := { slotOf s.link.nextHandle .pending (.heartbeat (buildHeartbeat s)) with latch := none }

/-- A link whose heartbeat timer runs, the last heartbeat in the slot of handle 3. -/
def beating (slots : List Slot) : State :=
  { onLine .idle slots with members.heartbeatTimer := some 1000, members.heartbeatHandle := some 3 }

theorem witness_HeartbeatsFallDueAtTheirPeriod :
    (let s := { onLine .idle [] with link.state := .listening, link.listeningTimer := some 2000 };
      BarInStep s ∧ s.link.state = .listening ∧ s.link.listeningTimer = some 2000 ∧ s.link.slots.length < 8)
      ∧ (BarInStep (beating []) ∧ (beating []).link.state = .active ∧ (beating []).members.heartbeatTimer = some 1000)
      ∧ (let x := slotOf 3 .pending (.heartbeat beat)
        (beating [x]).link.slots.find? (fun y => y.handle = 3) = some x ∧ x.status = .pending
          ∧ (beating [x]).members.heartbeatHandle = some 3 ∧ (beating [x]).link.slots.length ≤ 8)
      ∧ (let slots := List.replicate 8 (slotOf 9 .pending claimOf)
        8 ≤ (beating slots).link.slots.length ∧ ∀ x ∈ (beating slots).link.slots, x.handle ≠ 3) := by
  unfold BarInStep; decide +kernel

theorem witness_ReachedDeadlinesMakePendingSlotsStale :
    (∀ x ∈ [{ slotOf 3 .pending firedOf1 with deadline := some 1000 }, { slotOf 3 .pending pieceOf1 with deadline := some 1000 },
        { slotOf 3 .sending claimOf with deadline := some 1000 }],
      BarInStep (onLine .idle [x]) ∧ (onLine .idle [x]).link.slots[0]? = some x ∧ reached (onLine .idle [x]) 1000 = true)
      ∧ reached (onLine .idle [{ slotOf 3 .pending firedOf1 with deadline := some 1001 }]) 1001 = false := by
  unfold BarInStep; decide +kernel

theorem witness_EveryNoticeSurvivesTheLine :
    WireFits (.heartbeat beat) ∧ WireFits claimWire ∧ WireFits (.fired 65535 ⟨⟨15, 4095⟩, true, true, true, true, 0, 63, 64⟩)
      ∧ WireFits (.piece 16777215 ⟨⟨2, 417⟩, 4095, 0, 255, 7, .quick, true, List.replicate 4 ⟨15, 255⟩⟩) := by
  simp only [WireFits, claimWire]; decide +kernel

/-- A peer slot in a state, with the content of `beat`. -/
def peerIn (st : PeerState) : Peer := { peerAt 24000 true false 0 with state := st }

/-- A bar that hears a frame, node 5's slot in a state. -/
def hearsPeer (st : PeerState) : State := { hears [] with members.peers := State.reset.members.peers.set 5 (peerIn st) }

theorem witness_HeartbeatsMoveThePeerSlot :
    (∀ st ∈ [PeerState.absent, .joining1, .joining2, .present, .doubtful1, .doubtful2, .lost],
      let s := hearsPeer st
      let b := frameBytes 5 (.heartbeat beat)
      s.link.state ≠ .offline ∧ s.link.frame = .receiving ∧ frameGood b = true ∧ (headerOf b).origin = 5
        ∧ (5 : Node) ≠ (prof s).node ∧ (headerOf b).kind = 1 ∧ s.members.peers[5].state = st
        ∧ wireOf (headerOf b).cls 1 ((b.drop 2).take (headerOf b).length) = some (.heartbeat beat)
        ∧ s.members.peers[5].deadline = some 1500 ∧ s.members.peers[5].content.isSome = true ∧ s.clock ≤ 1500)
      -- in time at the deadline itself; late by one doubt, and by all three
      ∧ ∀ st ∈ [PeerState.joining1, .joining2, .present],
        (1500 : Nat) ≤ ({ hearsPeer st with clock := 1500 } : State).clock
          ∧ 1500 < ({ hearsPeer st with clock := 1501 } : State).clock
          ∧ ({ hearsPeer st with clock := 3500 } : State).clock ≤ 1500 + 20 * 100
          ∧ 1500 + 20 * 100 < ({ hearsPeer st with clock := 3501 } : State).clock := by decide +kernel

theorem witness_SupervisionStepsAMissedPeer :
    ∀ st ∈ [PeerState.joining1, .joining2, .present, .doubtful1, .doubtful2],
      (hearsPeer st).link.state ≠ .offline ∧ (hearsPeer st).members.peers[5] = peerIn st
        ∧ (peerIn st).deadline = some 1500 ∧ (peerIn st).state = st ∧ (peerIn st).content.isSome = true
        ∧ (hearsPeer st).members.peers[4].deadline = none := by decide +kernel

/-! #### Claims, firings, valves, air and chute -/

/-- The bar of §9.9's track with urgent entries waiting, at belt count 1,004,620. -/
def urgentWaits (p : Profile) (t : Track) (es : List QueueEntry) : State :=
  { charged p 1004620 with engine.tracks := [t], engine.nextKey := 10, accept.urgent := es }

/-- An urgent entry of node 5. -/
def fromFive (w : Wire) : QueueEntry := ⟨w, 5, 1004600, false⟩

/-- A drop notice of piece 2:417 that is next to be applied. -/
def dropOf (kind : UrgentKind) : DropNotice := ⟨kind, ⟨2, 417⟩, 1004500, 1⟩

/-- A bar whose drop notices wait behind a CLAIM for an unknown piece. -/
def dropWaits (n : DropNotice) (t : Track) : State :=
  { urgentWaits combined t [fromFive (.claim ⟨2, 418⟩ 4)] with
    claim.dropNotices := [n, { dropOf .fired with remaining := 2 }]
    claim.ownClaims := [record417 3]
    sched.entries := [entry99 .reserved] }

theorem witness_FirstClaimSetsTheOwner :
    (∀ t ∈ [track99, { track99 with owner := some 6 }],
      BarInStep (urgentWaits combined t [fromFive claimWire])
        ∧ (urgentWaits combined t [fromFive claimWire]).accept.urgent = fromFive claimWire :: []
        ∧ (fromFive claimWire).own = false ∧ (urgentWaits combined t [fromFive claimWire]).claim.dropNotices = []
        ∧ (prof (urgentWaits combined t [fromFive claimWire])).sense = true
        ∧ trackOf ⟨2, 417⟩ (urgentWaits combined t [fromFive claimWire]) = some t ∧ t.own ≠ .pending)
      ∧ trackOf ⟨2, 418⟩ (urgentWaits combined track99 []) = none ∧ track99.owner = none
      ∧ ((prof (urgentWaits checker track99 [])).sense = false ∧ (prof (urgentWaits checker track99 [])).eject = false
        ∧ BarInStep (urgentWaits checker track99 []))
      -- a drop notice whose place is next, and one whose place is not
      ∧ (∀ n ∈ [dropOf .fired, dropOf .release, dropOf .claim],
        n.remaining = 1 ∧ (∀ k ∈ [{ dropOf .fired with remaining := 2 }], 2 ≤ k.remaining)
          ∧ ∀ t ∈ [track99, { track99 with owner := some 2 }, { track99 with owner := some 5 }],
            let s := dropWaits n t
            BarInStep s ∧ s.accept.urgent = fromFive (.claim ⟨2, 418⟩ 4) :: [] ∧ trackOf ⟨2, 418⟩ s = none
              ∧ trackOf n.id s = some t ∧ s.claim.dropNotices = n :: [{ dropOf .fired with remaining := 2 }]
              ∧ (prof s).node = 2 ∧ (prof s).eject = true ∧ s.claim.ownClaims = [record417 3])
      ∧ (record417 3).id = (dropOf .claim).id ∧ (record417 3).met = false ∧ (record417 3).giveUp = none
      ∧ (record417 3).orphan = false ∧ (record417 3).outcomeTaken = false := by
  unfold BarInStep; decide +kernel

/-- The own CLAIM's entry. -/
def ownClaimEntry : QueueEntry := ⟨claimWire, 2, 1004600, true⟩

/-- The bar with a claim pending, its entry RESERVED and its CLAIM in slot 3. -/
def claimPending (es : List QueueEntry) : State :=
  { urgentWaits combined { track99 with own := .pending } es with
    claim.ownClaims := [record417 3]
    sched.entries := [entry99 .reserved]
    link.slots := [{ slotOf 3 .pending claimOf with deadline := some 1005950 }] }

/-- The track of §9.9 with evidence for the classes 4 and 5. -/
def evidence (a4 a5 : Nat) : Track := weighted 5 a5 (weighted 4 a4 track99)

/-- The bar of `claimPending` at the decision point, with evidence and its slot's status to choose. -/
def pendingAtPoint (t : Track) (status : SlotStatus) : State :=
  { claimPending [] with
    engine.tracks := [{ t with own := .pending }]
    link.slots := [slotOf 3 status claimOf] }

theorem witness_DecisionPointDecidesAndClaims :
    (∀ t ∈ [{ track99 with pointMet := true }, { track99 with own := .owned }, evidence 999 0, evidence 1000 300, weighted 9 1000 track99,
        evidence 1000 0, evidence 0 1000, { evidence 1000 0 with cluster := true }, { evidence 1000 0 with owner := some 5 }],
      TableLawful (oneTrack 1004000 t))
      ∧ (∀ t ∈ [{ track99 with pointMet := true }, { track99 with own := .owned }, evidence 999 0, evidence 1000 300, weighted 9 1000 track99,
          evidence 1000 0, evidence 0 1000, { evidence 1000 0 with cluster := true }, { evidence 1000 0 with owner := some 5 }],
        let s := oneTrack 1004000 t
        BarInStep s ∧ trackOf ⟨2, 417⟩ s = some t ∧ s.port.station = .running ∧ (prof s).eject = true
          ∧ reached s (t.d + BitVec.ofNat 32 (prof s).barOffset - BitVec.ofNat 32 (prof s).decisionLead) = true
          ∧ s.claim.ownClaims = [] ∧ s.accept.overrun = false ∧ s.link.state = .active ∧ s.port.outcomes.length < 32
          ∧ s.sched.entries.length < 48 ∧ s.link.slots.length < 8)
      -- undecided by the evidence, by the margin, and decided for a class of neither set, a primary and a fallback class
      ∧ (leadingClass (evidence 999 0).accumulators = 4 ∧ (evidence 999 0).accumulators[(4 : Fin 16)] < combined.aMin)
      ∧ (combined.aMin ≤ (evidence 1000 300).accumulators[(4 : Fin 16)]
        ∧ (evidence 1000 300).accumulators[(4 : Fin 16)] - runnerUp (evidence 1000 300).accumulators < combined.mMin[(4 : Fin 16)])
      ∧ (leadingClass (weighted 9 1000 track99).accumulators = 9 ∧ combined.primary.getLsbD 9 = false
        ∧ combined.fallback.getLsbD 9 = false)
      ∧ (leadingClass (evidence 1000 0).accumulators = 4 ∧ combined.primary.getLsbD 4 = true
        ∧ combined.mMin[(4 : Fin 16)] ≤ (evidence 1000 0).accumulators[(4 : Fin 16)] - runnerUp (evidence 1000 0).accumulators)
      ∧ (leadingClass (evidence 0 1000).accumulators = 5 ∧ combined.primary.getLsbD 5 = false ∧ combined.fallback.getLsbD 5 = true
        ∧ ({ oneTrack 1004000 (evidence 0 1000) with members.adopted := 0 } : State).members.adopted.getLsbD 5 = false)
      ∧ ({ combined with clusterPolicy := .skip } : Profile).clusterPolicy = .skip
      -- an own-claim record of the track, the supply in STANDBY, and the refusals: SLOW, LATE, NO_VALVE, SUPPLY, PLENUM
      ∧ (∃ r ∈ ({ oneTrack 1004000 (evidence 1000 0) with claim.ownClaims := [record417 3] } : State).claim.ownClaims,
          r.id ∈ idsOf (evidence 1000 0))
      ∧ (station combined 1004000).air.supply = .standby
      ∧ ({ oneTrack 1004000 (evidence 1000 0) with belt.motion := .slow } : State).belt.motion ≠ .running
      ∧ (let w := windowOf combined 190 1000000 240 4
        let vs := valveSetOf (oneTrack 1004000 track99).valves combined.marginLat 100 131
        w.openCount = 1006350 ∧ reached (oneTrack 1006350 track99) w.openCount = true
          ∧ reached (oneTrack 1005950 track99) (w.openCount - BitVec.ofNat 32 combined.claimLead) = true
          ∧ reached (oneTrack 1004000 track99) (w.openCount - BitVec.ofNat 32 combined.claimLead) = false
          ∧ vs ≠ 0 ∧ valveSetOf { ValveMap.reset with valve := Vector.replicate 64 { Valve.fresh with descriptor := .retired } }
            combined.marginLat 100 131 = 0
          ∧ ¬ ((10 * combined.chargeTime * 190 + 159) / 160 : Nat) ≤ (w.openCount - 1005000).toInt
          ∧ ((10 * combined.chargeTime * 190 + 159) / 160 : Nat) ≤ (w.openCount - 1004000).toInt
          ∧ 48 ≤ (List.replicate 48 (entry 8 .armed 1006300 1006500 (valves [10]) 3)).length
          ∧ peakLoad [] w vs ≤ combined.plenumLimit)
      -- an own claim pending: of the same class, and of another, its CLAIM on the line or waiting
      ∧ (∀ c ∈ [(evidence 1000 0, SlotStatus.pending), (evidence 0 1000, .sending), (evidence 999 0, .pending)],
        TableLawful (pendingAtPoint c.1 c.2))
      ∧ (∀ c ∈ [(evidence 1000 0, SlotStatus.pending), (evidence 0 1000, .sending), (evidence 999 0, .pending)],
        let s := pendingAtPoint c.1 c.2
        BarInStep s ∧ trackOf ⟨2, 417⟩ s = some { c.1 with own := .pending } ∧ s.claim.ownClaims = [] ++ record417 3 :: []
          ∧ (record417 3).id ∈ idsOf c.1 ∧ (record417 3).cls = 4 ∧ c.1.heldRetirement = false
          ∧ s.sched.entries.find? (fun y => y.track = c.1.key) = some (entry99 .reserved) ∧ s.port.outcomes.length < 32
          ∧ s.link.slots.find? (fun y => y.handle = 3) = some (slotOf 3 c.2 claimOf)) := by
  simp only [tableLawful_iff, BarInStep]
  and_intros <;> decide +kernel

theorem witness_OwnClaimMetFirstWinsThePiece :
    let s := claimPending [ownClaimEntry]
    BarInStep s ∧ s.accept.urgent = ownClaimEntry :: [] ∧ ownClaimEntry.own = true ∧ ownClaimEntry.origin = (prof s).node
      ∧ s.claim.dropNotices = [] ∧ (prof s).eject = true
      ∧ trackOf ⟨2, 417⟩ s = some { track99 with own := .pending } ∧ track99.owner = none
      ∧ s.claim.ownClaims = [record417 3] ∧ (record417 3).id = ⟨2, 417⟩ ∧ (record417 3).met = false
      ∧ (record417 3).giveUp = none ∧ (record417 3).orphan = false := by
  unfold BarInStep; decide +kernel

theorem witness_PeerClaimMetFirstLosesThePiece :
    let s := claimPending [fromFive claimWire]
    KeysFresh s ∧ s.accept.urgent = fromFive claimWire :: [] ∧ (fromFive claimWire).own = false ∧ s.claim.dropNotices = []
      ∧ (prof s).eject = true ∧ trackOf ⟨2, 417⟩ s = some { track99 with own := .pending } ∧ track99.owner = none
      ∧ track99.heldRetirement = false ∧ s.claim.ownClaims = [record417 3] ∧ (record417 3).id = ⟨2, 417⟩
      ∧ (record417 3).metFirst = false ∧ (∀ x ∈ s.sched.entries, x.track = track99.key) ∧ s.port.outcomes.length < 32 := by
  unfold KeysFresh; decide +kernel

/-- A RELEASE of node 5 on the line. -/
def releaseWire : Wire := .release ⟨2, 417⟩ .stopped

theorem witness_ReleaseFromTheOwnerFreesThePiece :
    (∀ t ∈ [track99, { track99 with owner := some 5 }, { track99 with owner := some 5, own := .lost }],
      ∀ p ∈ [combined, bridge],
        BarInStep (urgentWaits p t [fromFive releaseWire]) ∨ p = bridge)
      ∧ (let s := inStation .halting (urgentWaits combined { track99 with owner := some 5, own := .lost } [fromFive releaseWire])
        BarInStep s ∧ s.accept.urgent = fromFive releaseWire :: [] ∧ s.claim.dropNotices = [] ∧ (prof s).eject = true
          ∧ trackOf ⟨2, 417⟩ s = some { track99 with owner := some 5, own := .lost }
          ∧ (fromFive releaseWire).origin = 5 ∧ (fromFive releaseWire).own = false ∧ s.port.station = .halting)
      ∧ (let s := { station bridge 0 with engine.tracks := [{ track99 with owner := some 5 }], accept.urgent := [fromFive releaseWire] }
        BarInStep s ∧ (prof s).sense = true ∧ (prof s).eject = false
          ∧ trackOf ⟨2, 417⟩ s = some { track99 with owner := some 5 } ∧ trackOf ⟨2, 418⟩ s = none)
      ∧ track99.owner ≠ some 5 := by
  unfold BarInStep; decide +kernel

/-- A FIRED of node 5 on the line, closed 20 counts before its edge. -/
def firedWire : Wire := .fired 20 ⟨⟨2, 417⟩, false, false, false, false, 25, 28, 3⟩

theorem witness_FiredIsRecordedAndHandedToTheChuteCheck :
    (let s := urgentWaits combined track99 [fromFive firedWire];
      BarInStep s ∧ s.accept.urgent = fromFive firedWire :: [] ∧ s.claim.dropNotices = [] ∧ (prof s).sense = true
        ∧ (prof s).check = false ∧ trackOf ⟨2, 417⟩ s = some track99 ∧ trackOf ⟨2, 418⟩ s = none)
      ∧ (let s := { station checker 1004780 with accept.urgent := [fromFive firedWire], chute.held := [⟨1004779, 1005379⟩] };
        BarInStep s ∧ (prof s).sense = false ∧ (prof s).eject = false ∧ (prof s).check = true
          ∧ (fromFive firedWire).origin = (prof s).watchedBar ∧ s.chute.expectations.length < 16
          ∧ (1004580 : Count) = (fromFive firedWire).latch - (20 : BitVec 16).setWidth 32
          ∧ reached s (1004580 + BitVec.ofNat 32 (prof s).flightMax) = false
          ∧ (∀ a ∈ s.chute.held, (a.count - (1004580 + BitVec.ofNat 32 (prof s).flightMin)).toInt < 0)
          ∧ ({ fromFive firedWire with origin := 6 } : QueueEntry).origin ≠ (prof s).watchedBar) := by
  unfold BarInStep
  decide +kernel

/-- The bar with one entry at its open count, in a motion state and supply. -/
def opening (state : EntryState) (m : Motion) (air : Supply) : State :=
  { oneEntry 1006350 track99 (entry99 state) with
    belt.motion := m
    air.supply := air
    bar.pilot := air = .ready || air = .low || air = .charging }

theorem witness_ReachedOpenCountsOpenOrEndTheEntry :
    (∀ s ∈ [opening .armed .running .ready, opening .armed .running .low, opening .armed .slow .ready,
        opening .armed .running .charging],
      BarInStep s ∧ trackOf ⟨2, 417⟩ s = some track99
        ∧ s.sched.entries.find? (fun x => x.track = track99.key) = some (entry99 .armed)
        ∧ reached s (entry99 .armed).openCount = true ∧ (entry99 .armed).valves &&& activeValves s ≠ 0
        ∧ s.port.outcomes.length < 32)
      ∧ (let s := opening .reserved .running .ready
        BarInStep s ∧ s.sched.entries.find? (fun x => x.track = track99.key) = some (entry99 .reserved)
          ∧ reached s (entry99 .reserved).openCount = true)
      ∧ (let s :=
          { opening .armed .running .ready with
            valves.valve := Vector.replicate 64 { Valve.fresh with descriptor := .retired } };
        BarInStep s ∧ (entry99 .armed).valves &&& activeValves s = 0)
      ∧ reached (oneEntry 1006349 track99 (entry99 .armed)) (entry99 .armed).openCount = false
      ∧ (BarInStep (opening .opened .running .ready) ∧ (entry99 .opened).state = .opened) := by
  unfold BarInStep; decide +kernel

theorem witness_OpenEntriesCloseFired :
    let s := oneEntry 1006663 track99 (entry99 .opened)
    KeysFresh s ∧ trackOf ⟨2, 417⟩ s = some track99
      ∧ s.sched.entries.find? (fun x => x.track = track99.key) = some (entry99 .opened) ∧ (entry99 .opened).state = .opened
      ∧ s.port.outcomes.length < 32 ∧ s.valves.recent.length < 16 ∧ s.link.state = .active ∧ s.link.slots.length < 8
      ∧ reached s (s.belt.count + BitVec.ofNat 32 (prof s).flightMax) = false
      ∧ reached s (entry99 .opened).closeCount = true ∧ (entry99 .opened).guard = some 400 := by
  unfold KeysFresh; decide +kernel

/-- §10.3's bar: valve 27 covered by 28, an OPEN entry driving 28, a transfer in progress. -/
def faulty : State :=
  { oneEntry 1006400 track99 { entry99 .opened with drive := valves [25, 28] } with
    valves := mapOf99
    bar.drive := valves [25, 28]
    bar.transfer := some (transferBytes (valves [25, 28]) true) }

/-- The bytes a driver returns with a fault mask. -/
def faults (vs : List Nat) : List Byte := transferBytes (valves vs) false

/-- A bar with auto-cover, its map given, a transfer in progress. -/
def covering (m : Vector Valve 64) : State :=
  { charged { combined with autoCover := true } 0 with
    valves := { ValveMap.reset with valve := m }
    bar.transfer := some (transferBytes 0 true) }

/-- The reset map with one valve changed. -/
def mapWith (v : Fin 64) (d : Descriptor) : Vector Valve 64 :=
  ValveMap.reset.valve.set v { Valve.fresh with descriptor := d }

theorem witness_FaultedValvesAreRetired :
    faulty.bar.transfer.isSome = true ∧ BarInStep faulty ∧ (prof faulty).autoCover = false
      ∧ (∀ v : Fin 64, (valves [28]).getLsbD v = bitAt (faults [28]) (1 + v.val / 8) (v.val % 8))
      ∧ (valves [28]).getLsbD 28 = true ∧ faulty.valves.valve[28].descriptor = .active
      ∧ (∀ v : Fin 64, (0 : ValveSet).getLsbD v = bitAt (faults []) (1 + v.val / 8) (v.val % 8))
      -- auto-cover: the right neighbour qualifies; it is out of service and the left one does; neither does
      ∧ (covering ValveMap.reset.valve).bar.transfer.isSome = true
      ∧ (prof (covering ValveMap.reset.valve)).autoCover = true ∧ coverTableSize ValveMap.reset.valve < 8
      ∧ (ValveMap.reset.valve[29].descriptor = .active ∧ ValveMap.reset.valve[30].descriptor ≠ .coveredLeft)
      ∧ ((mapWith 29 .retired)[29].descriptor ≠ .active ∧ (mapWith 29 .retired)[27].descriptor = .active
        ∧ (mapWith 29 .retired)[26].descriptor ≠ .coveredRight ∧ coverTableSize (mapWith 29 .retired) < 8)
      ∧ ((mapWith 1 .retired)[1].descriptor ≠ .active ∧ ∀ u : Fin 64, u.val + 1 ≠ 0) := by
  unfold BarInStep; decide +kernel

/-- §10.7's bar: valves 40 to 43 at streak 2, a CONFIRM waiting. -/
def confirmWaits (res : ConfirmResult) : State :=
  { station combined 0 with
    accept.general := [⟨.confirm ⟨3, 77⟩ 1 res, 12, 0, false⟩]
    valves.valve := (Vector.replicate 64 Valve.fresh).set 40 { Valve.fresh with streak := 2 }
    valves.recent := [(⟨1, 91⟩, valves [1]), (⟨3, 77⟩, valves [40, 41])] }

theorem witness_ConfirmsMoveTheStreaks :
    (∀ res ∈ [ConfirmResult.arrived, .absent],
      takeFirst isConfirm (confirmWaits res).accept.general = some (⟨.confirm ⟨3, 77⟩ 1 res, 12, 0, false⟩, [])
        ∧ (confirmWaits res).valves.recent = [(⟨1, 91⟩, valves [1])] ++ (⟨3, 77⟩, valves [40, 41]) :: []
        ∧ ∀ x ∈ [((⟨1, 91⟩ : PieceId), valves [1])], x.1 ≠ ⟨3, 77⟩)
      ∧ ∀ x ∈ (confirmWaits .absent).valves.recent, x.1 ≠ ⟨4, 1⟩ := by decide +kernel

/-- §10.7, node 5: an ABSENT raises valve 40 from 2 to the threshold of 3 and marks it; valve 41 goes to 1. -/
theorem test_absent_marks_a_valve :
    leaves .confirmEntryTaken (confirmWaits .absent)
      (fun t => t.valves.valve[40].streak = 3 && t.valves.valve[40].suspect && t.valves.valve[41].streak = 1
        && !t.valves.valve[41].suspect && t.port.flags = 0x0010#16) = true := by decide +kernel

/-- A bar in a supply state with a timer of each kind running. -/
def aired (air : Supply) (entries : List Entry) : State :=
  { oneTrack 1006400 track99 with
    air.supply := air
    air.chargeTimer := some 3000
    air.standbyTimer := some 600000
    bar.pilot := air = .ready || air = .low || air = .charging
    sched.entries := entries
    bar.drive := entries.foldl (fun vs e => vs ||| e.drive) 0 }

theorem witness_SupplyFollowsPressureAndTimers :
    (∀ air ∈ [Supply.standby, .charging, .ready, .low, .fault],
      BarInStep (aired air []) ∧ (prof (aired air [])).eject = true ∧ (aired air []).air.supply = air)
      ∧ (BarInStep (aired .ready [entry99 .opened]) ∧ (aired .charging [entry99 .armed]).air.chargeTimer = some 3000
        ∧ (aired .low [entry99 .opened]).air.standbyTimer = some 600000)
      ∧ (∀ clock ∈ [600000, 600001],
        let s := { aired .ready [entry99 .reserved] with clock := clock, air.standbyTimer := none, air.standbyDue := some 600000 }
        BarInStep s ∧ s.air.standbyTimer = none ∧ (s.air.standbyDue = some s.clock ↔ clock = 600000)
          ∧ ∀ e ∈ s.sched.entries, e.state ≠ .opened)
      ∧ (BarInStep (station bridge 0) ∧ (prof (station bridge 0)).eject = false) := by
  unfold BarInStep; decide +kernel

/-- §10.7's station with an arrival waiting. -/
def arrivalWaits (a : Arrival) (expectations : List Expectation) (held : List HeldArrival) : State :=
  { chuteStation 7200400 expectations held with intake.queue := [.arrival a] }

theorem witness_ArrivalsConfirmOrAreHeld :
    (let s := arrivalWaits ⟨7200352, 2⟩ [] [];
      s.port.station = .running ∧ takeFirst isArrivalEntry s.intake.queue = some (.arrival ⟨7200352, 2⟩, [])
        ∧ (2 : Fin 4) ≠ (prof s).watchedChute)
      ∧ (∀ n ∈ [7200210, 7200610],
        let x : Count := BitVec.ofNat 32 n
        let e : Expectation := ⟨⟨2, 417⟩, 7200210, 7200610, 1⟩
        let s := arrivalWaits ⟨x, 1⟩ [e, ⟨⟨3, 77⟩, 7200600, 7200700, 2⟩] []
        takeFirst isArrivalEntry s.intake.queue = some (.arrival ⟨x, 1⟩, []) ∧ (1 : Fin 4) = (prof s).watchedChute
          ∧ e ∈ s.chute.expectations ∧ 0 ≤ (x - e.earliest).toInt ∧ (x - e.latest).toInt ≤ 0
          ∧ (∀ y ∈ s.chute.expectations, y ≠ e → e.age < y.age) ∧ s.link.state = .active ∧ s.link.slots.length < 8)
      ∧ (∀ n ∈ [7, 8],
        let e : Expectation := ⟨⟨2, 417⟩, 7200210, 7200610, 1⟩
        let s := arrivalWaits ⟨7200209, 1⟩ [e] (List.replicate n ⟨7200180, 7200780⟩)
        (∀ y ∈ s.chute.expectations, (7200209 - y.earliest).toInt < 0) ∧ s.chute.held.length = n) := by decide +kernel

theorem witness_WaitingChuteRecordsExpire :
    (State.reset.port.station ≠ .running ∧ State.reset.port.station ≠ .halting)
      ∧ (∀ slots ∈ [[], List.replicate 8 (slotOf 3 .pending claimOf)],
        let b : List Expectation := [⟨⟨3, 77⟩, 7200100, 7200400, 1⟩, ⟨⟨2, 417⟩, 7200210, 7200401, 2⟩]
        let e : Expectation := ⟨⟨2, 417⟩, 7200220, 7200400, 3⟩
        let s := { chuteStation 7200400 (b ++ e :: []) [] with link.slots := slots }
        s.port.station = .running ∧ s.chute.expectations = b ++ e :: [] ∧ reached s e.latest = true
          ∧ (∀ x ∈ b, x.id ≠ ⟨2, 417⟩ ∨ reached s x.latest = false) ∧ s.link.state = .active)
      ∧ (let s := chuteStation 7200780 [] [⟨7200181, 7200781⟩, ⟨7200180, 7200780⟩]
        s.chute.held = [⟨7200181, 7200781⟩] ++ ⟨7200180, 7200780⟩ :: [] ∧ reached s 7200780 = true
          ∧ ∀ x ∈ [(⟨7200181, 7200781⟩ : HeldArrival)], reached s x.leave = false) := by decide +kernel

/-- R15, R28: the bytes of a record shifted in before a station reset are abandoned with it, and the rest of it after the reset
joins nothing, though the station runs again. -/
theorem test_record_in_reception_at_a_reset :
    leaves (.recordComplete [0x21, 0x14] .held) sensing (fun t => t.intake.reception = .receiving [0x21, 0x14]
        && leaves (.stationReset .pinAsserted) t (fun u => u.intake.reception = .abandoned
          && leaves (.recordComplete [0x09] (.released false)) (inStation .running u)
            (fun v => v.intake = Intake.reset))) = true := by decide +kernel

/-- R189: while the RESET pin is asserted a HALT is not taken; once it is released the port takes commands again. -/
theorem test_no_command_while_reset_is_held :
    let held := { station combined 0 with port.resetHeld := true }
    exec (.halt []) held = .next held
      ∧ leaves (.stationReset .pinReleased) held (fun t => leaves (.halt []) t (fun u => u.port.station = .halting)) = true :=
  ⟨rfl, by decide +kernel⟩

/-- R50: a detection whose evidence has its track leave the table (the claim reclassed, the held retirement due) is announced all
the same. -/
theorem test_announcement_after_the_track_left :
    leaves .detectionEntryTaken
      { claimPending [] with
        belt.count := 1006300
        engine.tracks :=
          [{ track99 with
              own := .pending
              heldRetirement := true
              pointMet := true
              decision := .decided 4 900 .full
              source := some 28001 }]
        intake.queue := [.detection ⟨1000100, 232, 100, 131, [⟨9, 255⟩], false⟩] }
      (fun t => t.engine.tracks.isEmpty && t.port.outcomes.map (·.result) = [.reclassed]
        && t.link.slots.map (fun x => (noticeClass x.notice, x.deadline)) = [(.normal, some 1009300)]) = true := by
  decide +kernel

/-- R119, R120: a JOINING peer's heartbeat after its deadline of 150 ms begins it again; at the deadline itself it is in time. -/
theorem test_late_heartbeat_begins_again :
    (∀ p ∈ [(1500, PeerState.present), (1501, PeerState.joining1)],
      leaves (.frameReceived (frameBytes 5 (.heartbeat beat))) { hearsPeer .joining2 with clock := p.1 }
        (fun t => t.members.peers[5].state = p.2) = true) := by decide +kernel

/-- R182: the standby timer's end and an admission at one moment: the end taken second still leaves STANDBY with the entry
waiting, and the entry's open count then finds no supply. -/
theorem test_standby_end_meets_an_admission :
    let s := { oneTrack 1004000 (weighted 4 1000 track99) with clock := 600000, air.standbyTimer := some 600000 }
    leaves (.decisionPointReached ⟨2, 417⟩) s (fun t => t.air.supply = .ready && t.air.standbyTimer = none
      && leaves .standbyTimerExpiry t (fun u => u.air.supply = .standby && u.sched.entries.length = 1
        && leaves .standbyTimerExpiry { t with clock := 600001 } (fun v => v.air.supply = .ready))) = true := by decide +kernel

/-! #### The station port, and what every step keeps -/

/-- A HALTING station with a record and slots. -/
def halting (rs : List OwnClaim) (slots : List Slot) : State :=
  { inStation .halting (station combined 1000) with claim.ownClaims := rs, link.slots := slots }

theorem witness_HaltingEndsWithoutClaimWork :
    (let s := halting [] [slotOf 3 .pending (.heartbeat beat), slotOf 4 .pending pieceOf1, slotOf 5 .pending confirmOf1];
      s.port.station = .halting ∧ s.claim.ownClaims = [] ∧ s.claim.dropNotices = []
        ∧ ∀ x ∈ s.link.slots, noticeClass x.notice ≠ .urgent)
      ∧ (halting [record417 3] []).claim.ownClaims ≠ []
      ∧ (∃ x ∈ (halting [] [slotOf 3 .pending releaseOf1]).link.slots, noticeClass x.notice = .urgent) := by decide +kernel

/-- Bytes 0 to 34 of a load: the first 17 fields and A_min. -/
def loadHead : List Byte :=
  [2, 0xC0, 0, 0x6D, 0x60, 1, 0xF4, 100, 3, 15, 12, 10, 5, 4, 0, 0, 0, 8, 0, 40, 4, 0x17, 0x70, 0x0B, 0xB8, 3, 0xE8, 12, 4, 16,
    6, 3, 0, 3, 0xE8]

/-- Bytes 152 to 180: lateral margin to the entry count. -/
def loadTail : List Byte :=
  [2, 0x19, 0, 0x09, 0x60, 1, 0x90, 25, 15, 30, 1, 0x90, 0, 128, 16, 4, 0, 60, 0, 150, 0, 3, 5, 1, 0, 200, 2, 0x58, 0]

/-- A load of 278 bytes of the profile `combined`, with a datum byte to choose: margins 800, T class 4, F class 5. -/
def load : List Byte :=
  loadHead ++ (List.replicate 16 [3, 0x20]).flatten ++ [0, 0x10, 0, 0x20, 0] ++ [0, 0, 0, 0, 3, 2, 1, 5, 0, 0, 0, 0, 0, 0, 0, 0]
    ++ (List.replicate 16 [0, 20, 0, 40]).flatten ++ loadTail ++ List.replicate 96 0 ++ [4]

/-- 11 §11.3: the load of `combined`'s fields is read as `combined`. -/
theorem test_load_is_read_field_by_field : profileOf load = { combined with bitRate := .kbit500 } := by decide +kernel

theorem witness_LoadedProfileIsCheckedAndHeldWhole :
    State.reset.port.resetPending = false ∧ State.reset.port.resetHeld = false ∧ State.reset.port.station = .unconfigured
      ∧ load.length = 278
      ∧ (∀ c ∈ profileChecks load, c.2 = true)
      ∧ (let bad := load.set 159 81
        bad.length = 278 ∧ profileChecks bad = (profileChecks bad).take 22 ++ (29, false) :: (profileChecks bad).drop 23
          ∧ ∀ c ∈ (profileChecks bad).take 22, c.2 = true)
      ∧ (station combined 0).port.station = .running := by decide +kernel

theorem witness_StartRunsTheStation :
    State.reset.port.resetPending = false ∧ State.reset.port.resetHeld = false
      ∧ (State.reset.port.station ≠ .ready ∧ State.reset.port.station ≠ .halted)
      ∧ (inStation .ready (station combined 0)).port.station = .ready
      ∧ (inStation .halted (station combined 0)).port.station = .halted
      ∧ ({ station combined 0 with link.state := .silent .failures } : State).link.state = .silent .failures
      ∧ (station combined 0).link.state = .active := by decide

theorem witness_HaltEntersHalting :
    State.reset.port.station ≠ .running
      ∧ ((station combined 0).port.station = .running ∧ BarInStep (station combined 0)
        ∧ (station combined 0).sched.entries = [])
      ∧ (let s := oneEntry 1006400 track99 (entry99 .opened)
        s.port.resetPending = false ∧ s.port.station = .running ∧ s.sched.entries ≠ []
          ∧ ∀ e ∈ s.sched.entries, ∃ t ∈ s.engine.tracks, t.key = e.track) := by
  unfold BarInStep; decide +kernel

/-- The second edit of §10.2, its pairs as argument bytes. -/
def editArg : List Byte := [3, 29, 1, 27, 0, 28, 2]

theorem witness_EditsTakeEffectAsOneChange :
    (let s := { station combined 0 with valves := mapOf99 };
      s.port.resetPending = false ∧ s.port.resetHeld = false ∧ s.port.station ≠ .unconfigured ∧ u8 [0] 0 = 0
        ∧ (1 ≤ u8 editArg 0 ∧ u8 editArg 0 ≤ 64 ∧ editArg.length = 1 + 2 * u8 editArg 0
          ∧ editFault (editPairs editArg) s.valves.valve = none)
        ∧ ((29, 1) ∈ editPairs editArg ∧ ∀ q ∈ editPairs editArg, q.1 ≠ 30)
        ∧ (editPairs [2, 29, 1, 28, 2] = [(29, 1), (28, 2)] ∧ editFault (editPairs [2, 29, 1, 28, 2]) s.valves.valve
          = some (.badCover 27)))
      -- an OPEN entry drives a valve that the edit takes out of service
      ∧ (faulty.port.station ≠ .unconfigured ∧ editFault (editPairs editArg) faulty.valves.valve = none
        ∧ (28, 2) ∈ editPairs editArg ∧ faulty.valves.valve[28].descriptor = .active
        ∧ ∃ e ∈ faulty.sched.entries, e.state = .opened ∧ e.drive.getLsbD 28 = true) := by decide +kernel

theorem witness_PortTransactionsAreJudgedInOrder :
    State.reset.port.resetPending = false ∧ State.reset.port.resetHeld = false
      ∧ ({ State.reset with port.resetPending := true } : State).port.resetPending = true
      ∧ ({ State.reset with port.resetHeld := true } : State).port.resetHeld = true
      ∧ ((0 : Byte) = 0 ∨ 13 < (0 : Byte).toNat) ∧ 13 < (14 : Byte).toNat ∧ [(0 : Byte)] ≠ []
      ∧ ([1, 0] : List Byte).length < 3 ∧ ([10, 0, 2, 4] : List Byte).length < 3 + (u8 [10, 0, 2, 4] 1 * 256 + u8 [10, 0, 2, 4] 2)
      ∧ ([1, 2] : List Byte).length ≠ 1 ∧ ([1] : List Byte).length ≠ 2
      ∧ (∀ st ∈ [Station.unconfigured, .ready, .running, .halting, .halted],
        (inStation st (station combined 0)).port.station = st ∧ (inStation st (station combined 0)).port.resetHeld = false)
      ∧ ({ station combined 0 with link.state := .silent .failures } : State).link.state = .silent .failures
      ∧ (station combined 0).link.state = .active := by decide +kernel

theorem witness_StationResetKeepsProfileMaskAndValves :
    (faulty.port.resetPending = false ∧ faulty.port.resetHeld = false ∧ faulty.bar.transfer ≠ none)
      ∧ ({ faulty with port.resetPending := true } : State).port.resetPending = true
      ∧ ({ faulty with port.resetHeld := true } : State).port.resetHeld = true
      ∧ (station combined 0).bar.transfer = none
      ∧ faulty.intake.reception = .idle
      ∧ ({ faulty with intake.reception := .receiving [0x21] } : State).intake.reception ≠ .idle
      -- a held profile with its watermark set, OUTCOMES_READY enabled
      ∧ WatermarkSet { faulty with port.enableMask := 1 } := by
  and_intros <;> first | decide | exact watermarkSet_of_held (p := combined) rfl (by decide)

/-- A state of a bar at work, with a command that meets it. -/
def atWork (c : Instr) (s : State) : State := { s with pending := [c] }

/-- A bar with an OPEN entry and a covered valve, about to close the entry. -/
def closing : State := atWork (.closeCountReached ⟨2, 417⟩) { faulty with belt.count := 1006663 }

/-- The step of `closing`: the entry leaves, and the drive with it. -/
theorem test_closing_steps :
    leaves (.closeCountReached ⟨2, 417⟩) closing (fun t => t.sched.entries.isEmpty && t.bar.drive = 0) = true := by
  decide +kernel

theorem witness_BarFollowsTheScheduleAndTheSupply : BarInStep closing ∧ closing.bar.drive ≠ 0 := by
  unfold BarInStep; decide +kernel

theorem witness_DrivenValvesStayActive :
    DrivesActive closing ∧ OpensOnAir closing ∧ ∃ e ∈ closing.sched.entries, e.state = .opened ∧ e.drive ≠ 0 := by
  refine ⟨?_, by unfold OpensOnAir; decide +kernel, by decide +kernel⟩
  unfold DrivesActive; decide +kernel

theorem witness_ValveMapLawsHoldAfterEveryStep :
    MapLawful closing ∧ closing.valves.valve[27].descriptor = .coveredRight := by
  unfold MapLawful; decide +kernel

theorem witness_OnlyAnActiveLinkDrives :
    driving (onLine .sending [slotOf 3 .sending claimOf]) = true
      ∧ (onLine .sending [slotOf 3 .sending claimOf]).link.state = .active := by decide +kernel

/-- A table of two tracks in order, about to take a PIECE. -/
def taking : State := atWork .pieceEntryTaken (bridgeWith [refined311, pieceTrack 8 ⟨2, 418⟩ 5001100 60 10 25] pieceFrom4)

theorem witness_TrackTableLawsHoldAfterEveryStep :
    TableLawful taking ∧ InTableOrder taking ∧ DsNear 5001000 taking
      ∧ leaves .pieceEntryTaken taking
        (fun t => t.engine.tracks.all fun u => (signedDiff u.d 5001000).natAbs < 536870912) = true := by
  refine ⟨by simp only [tableLawful_iff]; decide +kernel, ?_, ?_, by decide +kernel⟩
  · unfold InTableOrder; decide +kernel
  · unfold DsNear; decide +kernel

theorem witness_ReadCommandsAnswerWithTheirBlock :
    barOf99.port.resetPending = false ∧ barOf99.port.resetHeld = false := by decide

theorem witness_OutcomeAndEventCommandsAnswer :
    let s := { station combined 0 with port.outcomes := List.replicate 5 record }
    s.port.resetPending = false ∧ s.port.resetHeld = false ∧ 4 < s.port.outcomes.length := by decide

/-- A bar within every capacity, its outcome queue and its acceptance list full. -/
theorem witness_CapacitiesAreNeverExceeded :
    WithinCapacity
      { faulty with
        port.outcomes := List.replicate 32 record
        port.profile := some { combined with acceptance := List.replicate 16 (listEntry .accept) } } := by
  constructor <;> decide

theorem witness_OnlyEncoderEdgesMoveTheBeltCount :
    leaves (.encoderEdge .forward) (station combined 7) (fun t => t.belt.count = 8) = true
      ∧ Instr.encoderEdge .forward ≠ .powerOnReset := by decide +kernel

end Sys2Proof.Tests
end

/-! ### The decision values (R62) -/

section
namespace Sys2Proof.Machine

/-- The fold that moves on only to a strictly larger value is Mathlib's `List.argmax`. -/
theorem argmax_cons_eq_foldl {α : Type} (f : α → Nat) (b : α) (l : List α) :
    (b :: l).argmax f = some (l.foldl (fun b c => if f b < f c then c else b) b) := by
  induction l using List.reverseRecOn with
  | nil => rfl
  | append_singleton l c ih =>
    rw [← List.cons_append, List.argmax_concat, ih, List.foldl_concat]
    exact (apply_ite some _ _ _).symm

/-- c1 is the first class, in the order of the codes, at which the accumulators take their largest value. -/
theorem leadingClass_mem_argmax (acc : Vector Nat 16) :
    leadingClass acc ∈ (List.finRange 16).argmax (fun c : Fin 16 => acc[c]) := by
  rw [leadingClass, List.finRange_succ, argmax_cons_eq_foldl, List.foldl_cons, if_neg (lt_irrefl _)]
  rfl

theorem le_acc_leadingClass (acc : Vector Nat 16) (c : Fin 16) : acc[c] ≤ acc[leadingClass acc] :=
  List.le_of_mem_argmax (f := fun c : Fin 16 => acc[c]) (List.mem_finRange c) (leadingClass_mem_argmax acc)

/-- A class that reaches the largest value has no lower code than c1. -/
theorem leadingClass_le_of_acc_le {acc : Vector Nat 16} {c : Fin 16} (h : acc[leadingClass acc] ≤ acc[c]) :
    leadingClass acc ≤ c := by
  have hidx := List.index_of_argmax (leadingClass_mem_argmax acc) (List.mem_finRange c) h
  simpa only [List.idxOf_finRange, Fin.val_fin_le] using hidx

theorem acc_lt_of_lt_leadingClass {acc : Vector Nat 16} {c : Fin 16} (h : c < leadingClass acc) :
    acc[c] < acc[leadingClass acc] :=
  lt_of_not_ge fun hle => not_le_of_gt h (leadingClass_le_of_acc_le hle)

/-- A running maximum that passes over the elements with `p` is a supremum over the others. -/
theorem foldl_max_skip_eq_sup {α : Type} [DecidableEq α] (p : α → Prop) [DecidablePred p] (f : α → Nat) (l : List α)
    (m : Nat) :
    l.foldl (fun m c => if p c then m else max m (f c)) m = max m ((l.toFinset.filter (¬ p ·)).sup f) := by
  induction l generalizing m with
  | nil => simp
  | cons c l ih =>
    rw [List.foldl_cons, ih, List.toFinset_cons, Finset.filter_insert]
    by_cases hc : p c
    · rw [if_pos hc, if_neg (not_not_intro hc)]
    · rw [if_neg hc, if_pos hc, Finset.sup_insert]
      exact max_assoc _ _ _

/-- a2 is the largest accumulator among the classes other than c1. -/
theorem runnerUp_eq_sup (acc : Vector Nat 16) :
    runnerUp acc = (Finset.univ.erase (leadingClass acc)).sup (fun c : Fin 16 => acc[c]) := by
  have hothers : (List.finRange 16).toFinset.filter (¬ · = leadingClass acc) = Finset.univ.erase (leadingClass acc) := by
    ext c; simp
  rw [runnerUp, foldl_max_skip_eq_sup, hothers, Nat.zero_max]

theorem acc_le_runnerUp {acc : Vector Nat 16} {c : Fin 16} (hc : c ≠ leadingClass acc) : acc[c] ≤ runnerUp acc := by
  rw [runnerUp_eq_sup]
  exact Finset.le_sup (f := fun c : Fin 16 => acc[c]) (Finset.mem_erase.2 ⟨hc, Finset.mem_univ c⟩)

theorem exists_acc_eq_runnerUp (acc : Vector Nat 16) : ∃ c : Fin 16, c ≠ leadingClass acc ∧ acc[c] = runnerUp acc := by
  have hne : (Finset.univ.erase (leadingClass acc)).Nonempty := Finset.univ_nontrivial.erase_nonempty
  obtain ⟨c, hmem, hsup⟩ := Finset.exists_mem_eq_sup _ hne (fun c : Fin 16 => acc[c])
  exact ⟨c, Finset.ne_of_mem_erase hmem, by rw [runnerUp_eq_sup, hsup]⟩

/-- The margin is 0 when another class shares the largest value. -/
theorem leadMargin_eq_zero_of_tie {acc : Vector Nat 16} {c : Fin 16} (hc : c ≠ leadingClass acc)
    (htie : acc[c] = acc[leadingClass acc]) : leadMargin acc = 0 :=
  Nat.sub_eq_zero_of_le (htie ▸ acc_le_runnerUp hc)

theorem leadMargin_le_acc_leadingClass (acc : Vector Nat 16) : leadMargin acc ≤ acc[leadingClass acc] :=
  Nat.sub_le _ _

/-- Settles O12: c1 is an argmax that stops at the lowest code, a2 a supremum over the fifteen other classes. -/
theorem leadingClassHoldsTheLargestAccumulator : Obligations.LeadingClassHoldsTheLargestAccumulator := by
  intro acc
  refine ⟨le_acc_leadingClass acc, fun _ => acc_lt_of_lt_leadingClass, fun _ => acc_le_runnerUp, exists_acc_eq_runnerUp acc, rfl,
    fun ⟨_, hc, htie⟩ => leadMargin_eq_zero_of_tie hc htie,
    fun hbound => (leadMargin_le_acc_leadingClass acc).trans (hbound _)⟩

end Sys2Proof.Machine
end

/-! ### Supervision of the peer table (R120, R122, R123) -/

section
namespace Sys2Proof.Machine

/-- The slot that the row of R120's table leaves of `p` at its deadline. -/
def missedSlot (deadline : Nat) (p : Peer) : Peer :=
  { p with
    state := (missedState p.state).1
    missed := (missedState p.state).2
    deadline := nextDeadline (missedState p.state).1 deadline p.content }

/-! #### The rows of the table -/

theorem missedSlot_of_joining {d : Nat} {p : Peer} (hst : p.state = .joining1 ∨ p.state = .joining2) :
    missedSlot d p = { p with state := .absent, missed := 1, deadline := none } := by
  obtain hst | hst := hst <;> simp [missedSlot, missedState, nextDeadline, hst]

theorem missedSlot_of_present {d : Nat} {p : Peer} {h : Heartbeat} (hst : p.state = .present) (hc : p.content = some h) :
    missedSlot d p = { p with state := .doubtful1, missed := 1, deadline := some (d + 10 * h.period.toNat) } := by
  simp [missedSlot, missedState, nextDeadline, hst, hc]

theorem missedSlot_of_doubtful1 {d : Nat} {p : Peer} {h : Heartbeat} (hst : p.state = .doubtful1)
    (hc : p.content = some h) :
    missedSlot d p = { p with state := .doubtful2, missed := 2, deadline := some (d + 10 * h.period.toNat) } := by
  simp [missedSlot, missedState, nextDeadline, hst, hc]

theorem missedSlot_of_doubtful2 {d : Nat} {p : Peer} (hst : p.state = .doubtful2) :
    missedSlot d p = { p with state := .lost, missed := 3, deadline := none } := by
  simp [missedSlot, missedState, nextDeadline, hst]

/-! #### What a step does beside its slot -/

theorem flagPeerChange_of_change {a b : PeerState} (h : isPeerChange a b = true) (s : State) :
    flagPeerChange a b s = raiseFlag .peerChange s := if_pos h

theorem flagPeerChange_of_quiet {a b : PeerState} (h : isPeerChange a b = false) (s : State) :
    flagPeerChange a b s = s := by simp [flagPeerChange, h]

/-- R123: the sets are left while the slot stays present for decisions, or stays not present. -/
theorem superviseSlot_of_presence_kept {n : Node} {s : State} (d : Nat)
    (h : presentForDecisions s.members.peers[n].state = presentForDecisions (missedState s.members.peers[n].state).1) :
    superviseSlot n d s
      = flagPeerChange s.members.peers[n].state (missedState s.members.peers[n].state).1
          (setPeer n (missedSlot d s.members.peers[n]) s) :=
  if_neg (not_not.2 h)

theorem superviseSlot_of_presence_changed {n : Node} {s : State} (d : Nat)
    (h : presentForDecisions s.members.peers[n].state ≠ presentForDecisions (missedState s.members.peers[n].state).1) :
    superviseSlot n d s
      = recomputeSets (flagPeerChange s.members.peers[n].state (missedState s.members.peers[n].state).1
          (setPeer n (missedSlot d s.members.peers[n]) s)) :=
  if_pos h

theorem recomputeSets_raiseFlag (f : Flag) (s : State) :
    recomputeSets (raiseFlag f s) = raiseFlag f (recomputeSets s) := rfl

/-- A doubted peer stays present for decisions, a JOINING one was not: neither is a change that anything is told of. -/
theorem superviseSlot_quiet {n : Node} {s : State} (d : Nat)
    (hst : s.members.peers[n].state = .joining1 ∨ s.members.peers[n].state = .joining2
      ∨ s.members.peers[n].state = .doubtful1) :
    superviseSlot n d s = setPeer n (missedSlot d s.members.peers[n]) s := by
  have hkept : presentForDecisions s.members.peers[n].state
      = presentForDecisions (missedState s.members.peers[n].state).1 := by
    obtain hst | hst | hst := hst <;> rw [hst] <;> rfl
  have hquiet : isPeerChange s.members.peers[n].state (missedState s.members.peers[n].state).1 = false := by
    obtain hst | hst | hst := hst <;> rw [hst] <;> rfl
  rw [superviseSlot_of_presence_kept d hkept, flagPeerChange_of_quiet hquiet]

/-- Out of PRESENT into doubt: flagged, though the peer stays present for decisions. -/
theorem superviseSlot_of_present {n : Node} {s : State} (d : Nat) (hst : s.members.peers[n].state = .present) :
    superviseSlot n d s = raiseFlag .peerChange (setPeer n (missedSlot d s.members.peers[n]) s) := by
  rw [superviseSlot_of_presence_kept d (by rw [hst]; rfl), flagPeerChange_of_change (by rw [hst]; rfl)]

/-- Into LOST: flagged, and the peer no longer counts for the sets. -/
theorem superviseSlot_of_doubtful2 {n : Node} {s : State} (d : Nat) (hst : s.members.peers[n].state = .doubtful2) :
    superviseSlot n d s
      = raiseFlag .peerChange (recomputeSets (setPeer n (missedSlot d s.members.peers[n]) s)) := by
  rw [superviseSlot_of_presence_changed d (by rw [hst]; decide), flagPeerChange_of_change (by rw [hst]; rfl),
    recomputeSets_raiseFlag]

/-! #### The command -/

theorem exec_supervisionDeadline (n : Node) (s : State) :
    exec (.supervisionDeadline n) s = execSupervisionDeadline n s := rfl

theorem execSupervisionDeadline_of_none {n : Node} {s : State} (hd : s.members.peers[n].deadline = none) :
    execSupervisionDeadline n s = .next s := by
  rw [execSupervisionDeadline, hd]
  exact ite_self _

theorem execSupervisionDeadline_of_some {n : Node} {s : State} {d : Nat} (hlink : s.link.state ≠ .offline)
    (hd : s.members.peers[n].deadline = some d) :
    execSupervisionDeadline n s = .next (superviseSlot n d (clockTo d s)) := by
  rw [execSupervisionDeadline, if_neg hlink, hd]

/-- Settles O31: in each row the step writes `missedSlot`, and the flag and the sets follow from the states it joins. -/
theorem supervisionStepsAMissedPeer : Obligations.SupervisionStepsAMissedPeer := by
  rintro s n d _ hlink rfl
  simp only [exec_supervisionDeadline]
  refine ⟨execSupervisionDeadline_of_none, fun hd hst => ?joining, fun h hd hst hc => ?present,
    fun h hd hst hc => ?doubtful1, fun q hd hst hq => ?doubtful2⟩
  all_goals refine ⟨_, execSupervisionDeadline_of_some hlink hd, ?_⟩
  case joining =>
    rw [superviseSlot_quiet (s := clockTo d s) d (hst.imp_right .inl), ← missedSlot_of_joining hst]; rfl
  case present =>
    rw [superviseSlot_of_present (s := clockTo d s) d hst, ← missedSlot_of_present hst hc]; rfl
  case doubtful1 =>
    rw [superviseSlot_quiet (s := clockTo d s) d (.inr (.inr hst)), ← missedSlot_of_doubtful1 hst hc]; rfl
  case doubtful2 =>
    rw [superviseSlot_of_doubtful2 (s := clockTo d s) d hst, hq, ← missedSlot_of_doubtful2 hst]; rfl

end Sys2Proof.Machine
end

/-! ### Confirmations and the suspect valves (R108, R178) -/

section
namespace Sys2Proof.Machine

/-! #### The oldest record of a piece -/

theorem takeFirst_eq_none {α : Type} {p : α → Bool} {l : List α} (h : ∀ x ∈ l, p x = false) : takeFirst p l = none := by
  induction l with
  | nil => rfl
  | cons x xs ih =>
    obtain ⟨hx, hxs⟩ := List.forall_mem_cons.1 h
    simp [takeFirst, hx, ih hxs]

/-- The first element that satisfies `p` is taken, and what stood around it keeps its order. -/
theorem takeFirst_append_cons {α : Type} {p : α → Bool} {older newer : List α} {x : α} (hold : ∀ y ∈ older, p y = false)
    (hx : p x = true) : takeFirst p (older ++ x :: newer) = some (x, older ++ newer) := by
  induction older with
  | nil => simp [takeFirst, hx]
  | cons y ys ih =>
    obtain ⟨hy, hys⟩ := List.forall_mem_cons.1 hold
    simp [takeFirst, hy, ih hys]

/-! #### Flags and marks -/

theorem raiseFlag_getLsbD_flagBit (f : Flag) (s : State) : (raiseFlag f s).port.flags.getLsbD (flagBit f) = true := by
  have hbit : flagBit f < 16 := by cases f <;> decide
  simp [raiseFlag, flagWord, hbit]

theorem newSuspect_eq_true_iff {before after : Vector Valve 64} :
    newSuspect before after = true ↔ ∃ v : Fin 64, before[v].suspect = false ∧ after[v].suspect = true := by
  simp [newSuspect]

theorem confirmedMap_getElem (vs : ValveSet) (res : ConfirmResult) (threshold : Nat) (m : Vector Valve 64) (v : Fin 64) :
    (confirmedMap vs res threshold m)[v] = if vs.getLsbD v then confirmedValve res threshold m[v] else m[v] :=
  Vector.getElem_ofFn v.isLt

/-! #### A CONFIRM taken by valve health -/

theorem takeConfirm_of_unlisted {id : PieceId} (res : ConfirmResult) {s : State}
    (h : ∀ x ∈ s.valves.recent, x.1 ≠ id) :
    takeConfirm id res s = { s with valves.unlistedConfirms := bump s.valves.unlistedConfirms } := by
  rw [takeConfirm, takeFirst_eq_none fun x hx => decide_eq_false (h x hx)]

/-- The state that an outcome for a firing of `vs` leaves, but for the event flag. -/
def confirmFiring (vs : ValveSet) (res : ConfirmResult) (recent : List (PieceId × ValveSet)) (s : State) : State :=
  { s with
    valves.recent := recent
    valves.valve := confirmedMap vs res (prof s).suspectThreshold s.valves.valve }

/-- Beside the record and the valves, only VALVE_SUSPECT can change, on a mark that was not set before. -/
theorem takeConfirm_of_listed {id : PieceId} (res : ConfirmResult) {s : State} {older newer : List (PieceId × ValveSet)}
    {vs : ValveSet} (hrec : s.valves.recent = older ++ (id, vs) :: newer) (hold : ∀ x ∈ older, x.1 ≠ id) :
    takeConfirm id res s
      = if newSuspect s.valves.valve (confirmFiring vs res (older ++ newer) s).valves.valve then
          raiseFlag .valveSuspect (confirmFiring vs res (older ++ newer) s)
        else confirmFiring vs res (older ++ newer) s := by
  rw [takeConfirm, hrec, takeFirst_append_cons (fun x hx => decide_eq_false (hold x hx)) (decide_eq_true rfl)]
  rfl

@[simp] theorem takeConfirm_frame (id : PieceId) (res : ConfirmResult) (s : State) :
    (takeConfirm id res s).clock = s.clock ∧ (takeConfirm id res s).belt = s.belt ∧
      (takeConfirm id res s).intake = s.intake ∧ (takeConfirm id res s).engine = s.engine ∧
      (takeConfirm id res s).link = s.link ∧ (takeConfirm id res s).accept = s.accept ∧
      (takeConfirm id res s).members = s.members ∧ (takeConfirm id res s).claim = s.claim ∧
      (takeConfirm id res s).sched = s.sched ∧ (takeConfirm id res s).bar = s.bar ∧
      (takeConfirm id res s).air = s.air ∧ (takeConfirm id res s).chute = s.chute ∧
      (takeConfirm id res s).pending = s.pending := by
  rw [takeConfirm]
  split
  case h_1 => simp
  case h_2 => dsimp only; split <;> simp

section
variable {id : PieceId} (res : ConfirmResult) {s : State} {older newer : List (PieceId × ValveSet)} {vs : ValveSet}

theorem takeConfirm_valves_of_listed (hrec : s.valves.recent = older ++ (id, vs) :: newer)
    (hold : ∀ x ∈ older, x.1 ≠ id) :
    (takeConfirm id res s).valves = (confirmFiring vs res (older ++ newer) s).valves := by
  rw [takeConfirm_of_listed res hrec hold]
  split <;> simp

theorem takeConfirm_flag_of_new_mark (hrec : s.valves.recent = older ++ (id, vs) :: newer)
    (hold : ∀ x ∈ older, x.1 ≠ id)
    (hnew : ∃ v : Fin 64, s.valves.valve[v].suspect = false ∧ (takeConfirm id res s).valves.valve[v].suspect = true) :
    (takeConfirm id res s).port.flags.getLsbD (flagBit .valveSuspect) = true := by
  rw [takeConfirm_valves_of_listed res hrec hold] at hnew
  rw [takeConfirm_of_listed res hrec hold, if_pos (newSuspect_eq_true_iff.2 hnew)]
  exact raiseFlag_getLsbD_flagBit _ _

theorem takeConfirm_port_of_no_new_mark (hrec : s.valves.recent = older ++ (id, vs) :: newer)
    (hold : ∀ x ∈ older, x.1 ≠ id)
    (hnone : ∀ v : Fin 64, s.valves.valve[v].suspect = true ∨ (takeConfirm id res s).valves.valve[v].suspect = false) :
    (takeConfirm id res s).port = s.port := by
  rw [takeConfirm_valves_of_listed res hrec hold] at hnone
  have hquiet : ¬ newSuspect s.valves.valve (confirmFiring vs res (older ++ newer) s).valves.valve = true := by
    rw [newSuspect_eq_true_iff]
    rintro ⟨v, hbefore, hafter⟩
    exact (hnone v).elim (ne_true_of_eq_false hbefore) (ne_false_of_eq_true hafter)
  rw [takeConfirm_of_listed res hrec hold, if_neg hquiet, confirmFiring]

end

/-! #### The command -/

theorem exec_confirmEntryTaken_of_confirm {s : State} {e : QueueEntry} {rest : List QueueEntry} {id : PieceId} {ch : Fin 4}
    {res : ConfirmResult} (htake : takeFirst isConfirm s.accept.general = some (e, rest))
    (hwire : e.wire = .confirm id ch res) :
    exec .confirmEntryTaken s = .next (takeConfirm id res { s with accept.general := rest }) := by
  change execConfirmEntryTaken s = _
  simp only [execConfirmEntryTaken, htake, hwire]

/-- Settles O44: the command is `takeConfirm` on the state without the entry, and whether the list holds a record of the
piece decides its outcome. -/
theorem confirmsMoveTheStreaks : Obligations.ConfirmsMoveTheStreaks := by
  intro s e rest id ch res htake hwire
  rw [exec_confirmEntryTaken_of_confirm htake hwire]
  refine ⟨fun hnone => congrArg _ (takeConfirm_of_unlisted res hnone), fun older vs newer hrec hold => ?listed⟩
  case listed =>
    have hrec : ({ s with accept.general := rest } : State).valves.recent = older ++ (id, vs) :: newer := hrec
    have hvalves := takeConfirm_valves_of_listed res hrec hold
    refine ⟨_, rfl, by simp, by rw [hvalves]; rfl, fun v => ?valve, takeConfirm_flag_of_new_mark res hrec hold,
      takeConfirm_port_of_no_new_mark res hrec hold, by simp, by simp, by simp, by simp⟩
    case valve =>
      rw [hvalves, confirmFiring, confirmedMap_getElem]
      cases res <;> rfl

end Sys2Proof.Machine
end

/-! ### What a command does, move by move

Every command but an encoder edge and power-on reset takes the part through a chain of moves. A law of the state that every
move keeps is kept by every command, so a law is proved move by move and not command by command. -/

section
namespace Sys2Proof.Machine

set_option Elab.async false

/-! #### What the laws read -/

/-- What the laws read of a track: its key, its IDs and its D. -/
def trackSig (t : Track) : Nat × PieceId × Option PieceId × Count := (t.key, t.primary, t.aliasId, t.d)

/-- Tracks leave and change, but none comes, moves, or takes another ID or D. -/
def TracksKept (before after : List Track) : Prop := (after.map trackSig).Sublist (before.map trackSig)

/-- Every valve of the one set is in the other. -/
def Within (vs ws : ValveSet) : Prop := ∀ v : Nat, vs.getLsbD v = true → ws.getLsbD v = true

/-- An entry that may stand for another: of the same track and window, with no further load, and OPEN only if that one is, then
with no further drive. -/
structure EntryFrom (o e : Entry) : Prop where
  track : e.track = o.track
  openCount : e.openCount = o.openCount
  closeCount : e.closeCount = o.closeCount
  load : Within (loadSet e) (loadSet o)
  opened : e.state = .opened → o.state = .opened ∧ Within e.drive o.drive

/-- Entries leave and change, but none comes, grows or opens. -/
def EntriesKept (before after : List Entry) : Prop := ∀ e ∈ after, ∃ o ∈ before, EntryFrom o e

/-- What else the laws read. -/
structure Base where
  count : Count
  windowList : Vector Nat 4
  speed : Nat
  nextKey : Nat
  link : LinkState
  frame : FrameState
  descriptors : Vector Descriptor 64
  supply : Supply
  station : Station
  profile : Option Profile

def baseOf (s : State) : Base where
  count := s.belt.count
  windowList := s.belt.windowList
  speed := s.belt.speed
  nextKey := s.engine.nextKey
  link := s.link.state
  frame := s.link.frame
  descriptors := s.valves.valve.map (·.descriptor)
  supply := s.air.supply
  station := s.port.station
  profile := s.port.profile

/-- The move that most operations make: tracks and entries leave or change, and nothing else that a law reads is touched. -/
structure Departs (s t : State) : Prop where
  base : baseOf t = baseOf s
  tracks : TracksKept s.engine.tracks t.engine.tracks
  entries : EntriesKept s.sched.entries t.sched.entries

/-! #### Departures follow one another -/

theorem TracksKept.refl (ts : List Track) : TracksKept ts ts := List.Sublist.refl _

theorem TracksKept.trans {ts us vs : List Track} (h : TracksKept ts us) (k : TracksKept us vs) : TracksKept ts vs :=
  List.Sublist.trans k h

theorem Within.refl (vs : ValveSet) : Within vs vs := fun _ h => h

theorem Within.trans {a b c : ValveSet} (h : Within a b) (k : Within b c) : Within a c := fun v hv => k v (h v hv)

theorem EntryFrom.refl (e : Entry) : EntryFrom e e := ⟨rfl, rfl, rfl, .refl _, fun h => ⟨h, .refl _⟩⟩

theorem EntryFrom.trans {a b c : Entry} (h : EntryFrom a b) (k : EntryFrom b c) : EntryFrom a c where
  track := k.track.trans h.track
  openCount := k.openCount.trans h.openCount
  closeCount := k.closeCount.trans h.closeCount
  load := k.load.trans h.load
  opened hc :=
    have ⟨hb, hbc⟩ := k.opened hc
    have ⟨ha, hab⟩ := h.opened hb
    ⟨ha, hbc.trans hab⟩

theorem EntriesKept.refl (es : List Entry) : EntriesKept es es := fun e he => ⟨e, he, .refl e⟩

theorem EntriesKept.trans {es fs gs : List Entry} (h : EntriesKept es fs) (k : EntriesKept fs gs) : EntriesKept es gs := by
  intro e he
  obtain ⟨o, ho, hoe⟩ := k e he
  obtain ⟨p, hp, hpo⟩ := h o ho
  exact ⟨p, hp, hpo.trans hoe⟩

theorem Departs.refl (s : State) : Departs s s := ⟨rfl, .refl _, .refl _⟩

theorem Departs.trans {s t u : State} (h : Departs s t) (k : Departs t u) : Departs s u :=
  ⟨k.base.trans h.base, h.tracks.trans k.tracks, h.entries.trans k.entries⟩

/-- A change of what no law reads. -/
theorem Departs.of_same {s t : State} (hb : baseOf t = baseOf s := by rfl)
    (ht : t.engine.tracks = s.engine.tracks := by rfl) (he : t.sched.entries = s.sched.entries := by rfl) : Departs s t :=
  ⟨hb, ht ▸ .refl _, he ▸ .refl _⟩

theorem Departs.foldl {α : Type} {f : State → α → State} (hf : ∀ a x, Departs a (f a x)) (l : List α) (s : State) :
    Departs s (l.foldl f s) := by
  induction l generalizing s with
  | nil => exact .refl _
  | cons x xs ih => exact (hf s x).trans (ih _)

/-! #### The plain updates -/

/-- A change of tracks that keeps what the laws read of each. -/
def KeepsSig (f : Track → Track) : Prop := ∀ t, trackSig (f t) = trackSig t

theorem modifyTrack_departs (k : Nat) (f : Track → Track) (s : State)
    (hf : KeepsSig f := by exact fun _ => rfl) : Departs s (modifyTrack k f s) := by
  refine ⟨rfl, ?_, .refl _⟩
  have hsame : (modifyTrack k f s).engine.tracks.map trackSig = s.engine.tracks.map trackSig := by
    simp only [modifyTrack, List.map_map]
    refine List.map_congr_left fun t _ => ?_
    by_cases ht : t.key = k <;> simp [ht, hf t]
  rw [TracksKept, hsame]

theorem setOwn_departs (k : Nat) (o : OwnState) (s : State) : Departs s (setOwn k o s) :=
  modifyTrack_departs k _ s

theorem removeTrack_departs (k : Nat) (s : State) : Departs s (removeTrack k s) :=
  ⟨rfl, List.filter_sublist.map _, .refl _⟩

theorem removeSlot_departs (h : Nat) (s : State) : Departs s (removeSlot h s) := .of_same
theorem modifySlot_departs (h : Nat) (f : Slot → Slot) (s : State) : Departs s (modifySlot h f s) := .of_same

theorem removeEntry_departs (k : Nat) (s : State) : Departs s (removeEntry k s) :=
  ⟨rfl, .refl _, fun e he => ⟨e, List.mem_of_mem_filter he, .refl e⟩⟩

/-- A change of each entry to one that may stand for it. -/
theorem mapEntries_departs {f : Entry → Entry} (hf : ∀ e, EntryFrom e (f e)) (s : State) :
    Departs s { s with sched.entries := s.sched.entries.map f } := by
  refine ⟨rfl, .refl _, fun e he => ?_⟩
  obtain ⟨o, ho, rfl⟩ := List.mem_map.1 he
  exact ⟨o, ho, hf o⟩

theorem armEntry_departs (k : Nat) (s : State) : Departs s (armEntry k s) := by
  refine mapEntries_departs (fun e => ?_) s
  split
  · rename_i h
    simp only [Bool.and_eq_true, decide_eq_true_eq] at h
    exact ⟨rfl, rfl, rfl, by simp [loadSet, h.2, Within.refl], nofun⟩
  · exact .refl e

theorem raiseFlag_departs (f : Flag) (s : State) : Departs s (raiseFlag f s) := .of_same
theorem countUnsent_departs (s : State) : Departs s (countUnsent s) := .of_same
theorem modifyRecord_departs (h : Nat) (f : OwnClaim → OwnClaim) (s : State) : Departs s (modifyRecord h f s) := .of_same
theorem removeRecord_departs (h : Nat) (s : State) : Departs s (removeRecord h s) := .of_same
theorem orphanRecords_departs (t : Track) (s : State) : Departs s (orphanRecords t s) := .of_same

theorem putOutcome_departs (r : OutcomeRecord) (s : State) : Departs s (putOutcome r s) := by
  unfold putOutcome; split <;> exact .of_same

theorem recordFiring_departs (id : PieceId) (vs : ValveSet) (s : State) : Departs s (recordFiring id vs s) := by
  unfold recordFiring; split <;> exact .of_same

end Sys2Proof.Machine
end

section
namespace Sys2Proof.Machine

set_option Elab.async false

/-! #### Transmit slots -/

theorem pieceOutcome_departs (id : PieceId) (r : TxReport) (s : State) : Departs s (pieceOutcome id r s) := by
  unfold pieceOutcome
  split
  · exact .refl s
  · exact modifyTrack_departs _ _ s

theorem noticeOutcome_departs (n : Notice) (r : TxReport) (s : State) : Departs s (noticeOutcome n r s) := by
  cases n <;> simp only [noticeOutcome]
  case piece => exact pieceOutcome_departs _ _ s
  case claim => exact .refl s
  all_goals
    split
    · exact .refl s
    · exact .of_same

theorem roomForAdd_departs {cls : AccessClass} {s t : State} (h : roomForAdd cls s = some t) : Departs s t := by
  unfold roomForAdd at h
  split at h
  · cases h
  split at h
  · cases h; exact .refl s
  split at h
  · split at h
    · cases h
    · cases h
      exact (removeSlot_departs _ s).trans (noticeOutcome_departs _ _ _)
  · cases h

theorem slotAdd_departs {n : Notice} {d : Option Count} {s t : State} {k : Nat} (h : slotAdd n d s = some (t, k)) :
    Departs s t := by
  unfold slotAdd at h
  split at h
  · cases h
  · rename_i hs1
    cases h
    exact (roomForAdd_departs hs1).trans .of_same

theorem addNotice_departs (n : Notice) (d : Option Count) {refused : State → State} (hr : ∀ a, Departs a (refused a))
    (s : State) : Departs s (addNotice n d refused s) := by
  unfold addNotice
  split
  · exact hr s
  · rename_i hk
    split
    · exact ((slotAdd_departs hk).trans (removeSlot_departs _ _)).trans (noticeOutcome_departs _ _ _)
    · exact slotAdd_departs hk

/-! #### Departures from the table and the schedule -/

theorem countDeparture_departs (t : Track) (s : State) : Departs s (countDeparture t s) := .of_same

theorem retire_departs (t : Track) (s : State) : Departs s (retire t s) :=
  ((removeTrack_departs t.key s).trans (countDeparture_departs t _)).trans .of_same

theorem retireOrHold_departs (t : Track) (s : State) : Departs s (retireOrHold t s) := by
  unfold retireOrHold
  split
  · exact modifyTrack_departs _ _ s
  · exact retire_departs t s

theorem startStandbyTimer_departs (s : State) : Departs s (startStandbyTimer s) := by
  unfold startStandbyTimer; split <;> exact .of_same

theorem scheduleEmptied_departs (s : State) : Departs s (scheduleEmptied s) := by
  unfold scheduleEmptied
  split
  · exact startStandbyTimer_departs s
  · exact .refl s

theorem linkCleared_departs (k : Nat) (s : State) : Departs s (linkCleared k s) := by
  unfold linkCleared
  refine Departs.trans ?_ (scheduleEmptied_departs _)
  split
  · exact .refl s
  · split
    · split
      · exact retire_departs _ s
      · exact modifyTrack_departs _ _ s
    · exact .refl s

theorem requestFired_departs (e : Entry) (t : Track) (s : State) : Departs s (requestFired e t s) :=
  addNotice_departs _ _ countUnsent_departs s

theorem leave_departs (e : Entry) (r : Result) {tell : State → State} (ht : ∀ a, Departs a (tell a)) (s : State) :
    Departs s (leave e r tell s) := by
  unfold leave
  split
  · exact removeEntry_departs _ s
  · refine Departs.trans ?_ ((ht _).trans (linkCleared_departs _ _))
    have hput := (removeEntry_departs e.track s).trans (putOutcome_departs (entryRecord e ‹Track› r s) _)
    split
    · exact (hput.trans (recordFiring_departs _ _ _)).trans (requestFired_departs _ _ _)
    · exact hput

theorem dropEntry_departs (k : Nat) (r : Result) (s : State) : Departs s (dropEntry k r s) := by
  unfold dropEntry
  split
  · exact .refl s
  · exact leave_departs _ _ .refl s

theorem closeEntry_departs (e : Entry) (r : Result) (cut : Bool) (s : State) : Departs s (closeEntry e r cut s) :=
  Departs.trans .of_same (leave_departs _ _ .refl _)

theorem interruptAll_departs (s : State) : Departs s (interruptAll s) :=
  .foldl (fun a e => closeEntry_departs e _ _ a) _ s

/-! #### Own claims -/

theorem claimOutcome_departs (h : Nat) (r : TxReport) (s : State) : Departs s (claimOutcome h r s).1 := by
  unfold claimOutcome
  split
  · exact .refl s
  split
  · split
    · exact removeRecord_departs h s
    · exact modifyRecord_departs h _ s
  · refine (removeRecord_departs h s).trans ?_
    dsimp only
    split
    · exact .refl _
    · exact .refl _
    · exact (setOwn_departs _ _ _).trans (dropEntry_departs _ _ _)

theorem endSlot_departs (x : Slot) (o : TxOutcome) (s : State) : Departs s (endSlot x o s).1 := by
  refine (removeSlot_departs x.handle s).trans ?_
  unfold endSlot
  split
  · exact claimOutcome_departs _ _ _
  · exact noticeOutcome_departs _ _ _

theorem cancelSlot_departs (h : Nat) (s : State) : Departs s (cancelSlot h s).1 := by
  unfold cancelSlot
  split
  · exact .refl s
  split
  · exact endSlot_departs _ _ s
  · exact modifySlot_departs _ _ s
  · exact .refl s

theorem giveUpClaim_departs (t : Track) (r : OwnClaim) (why : GiveUp) (own : OwnState) (s : State) :
    Departs s (giveUpClaim t r why own s).1 :=
  ((modifyRecord_departs r.handle _ s).trans (setOwn_departs t.key own _)).trans (cancelSlot_departs _ _)

theorem schedulerGaveUp_departs (k : Nat) (why : GiveUp) (s : State) : Departs s (schedulerGaveUp k why s) := by
  unfold schedulerGaveUp
  split
  · exact .refl s
  · split
    · exact .refl s
    · exact giveUpClaim_departs _ _ _ _ s

theorem requestRelease_departs (k : Nat) (why : ReleaseReason) (s : State) : Departs s (requestRelease k why s) := by
  unfold requestRelease
  split
  · exact .refl s
  · exact (setOwn_departs _ _ s).trans (addNotice_departs _ _ countUnsent_departs _)

theorem schedulerEnds_departs (e : Entry) (r : Result) (why : GiveUp) (s : State) :
    Departs s (schedulerEnds e r why s) := by
  unfold schedulerEnds
  split
  · exact leave_departs _ _ (schedulerGaveUp_departs _ _) s
  · exact leave_departs _ _ (requestRelease_departs _ _) s
  · exact leave_departs _ _ .refl s

theorem settleMet_departs (h : Nat) (s : State) : Departs s (settleMet h s).1 := by
  unfold settleMet
  split
  · exact .refl s
  · split
    · exact removeRecord_departs h s
    · exact .refl s

/-- A departure leaves no entry of its track. -/
theorem leave_noneOfTrack (e : Entry) (r : Result) {tell : State → State} (ht : ∀ a, Departs a (tell a)) (s : State) :
    ∀ x ∈ (leave e r tell s).sched.entries, x.track ≠ e.track := by
  unfold leave
  split
  · intro x hx
    simpa using List.of_mem_filter hx
  · intro x hx
    suffices hrest : Departs (removeEntry e.track s) _ by
      obtain ⟨o, ho, hox⟩ := hrest.entries x hx
      rw [hox.track]
      simpa using List.of_mem_filter ho
    refine Departs.trans ?_ ((ht _).trans (linkCleared_departs _ _))
    have hput := putOutcome_departs (entryRecord e ‹Track› r s) (removeEntry e.track s)
    split
    · exact (hput.trans (recordFiring_departs _ _ _)).trans (requestFired_departs _ _ _)
    · exact hput

end Sys2Proof.Machine
end

section
namespace Sys2Proof.Machine

set_option Elab.async false

/-! #### The load of a schedule (R157) -/

theorem valveCount_mono {vs ws : ValveSet} (h : Within vs ws) : valveCount vs ≤ valveCount ws := by
  refine List.Sublist.length_le (List.monotone_filter_right _ fun v hv => h v hv)

/-- A union taken over a list of sets, entry by entry. -/
theorem getLsbD_foldl_union {α : Type} (p : α → Bool) (f : α → ValveSet) (l : List α) (vs : ValveSet) (v : Nat) :
    (l.foldl (fun a e => if p e then a ||| f e else a) vs).getLsbD v = true
      ↔ vs.getLsbD v = true ∨ ∃ e ∈ l, p e = true ∧ (f e).getLsbD v = true := by
  induction l generalizing vs with
  | nil => simp
  | cons e es ih =>
    rw [List.foldl_cons, ih]
    by_cases he : p e <;> simp [he, or_assoc]

/-- The valves that load the plenum at a count, with a new set (R157). -/
def loadedAt (entries : List Entry) (vs : ValveSet) (x : Count) : ValveSet :=
  entries.foldl (fun a e => if windowHolds e.openCount e.closeCount x then a ||| loadSet e else a) vs

theorem loadAt_eq (entries : List Entry) (vs : ValveSet) (x : Count) : loadAt entries vs x = valveCount (loadedAt entries vs x) :=
  rfl

theorem getLsbD_loadedAt {entries : List Entry} {vs : ValveSet} {x : Count} {v : Nat} :
    (loadedAt entries vs x).getLsbD v = true
      ↔ vs.getLsbD v = true
        ∨ ∃ e ∈ entries, windowHolds e.openCount e.closeCount x = true ∧ (loadSet e).getLsbD v = true :=
  getLsbD_foldl_union _ _ _ _ _

/-- Entries that stand for others load the plenum no more than those do. -/
theorem loadAt_mono {es fs : List Entry} (h : ∀ f ∈ fs, ∃ e ∈ es, EntryFrom e f) (vs : ValveSet) (x : Count) :
    loadAt fs vs x ≤ loadAt es vs x := by
  refine valveCount_mono fun v hv => getLsbD_loadedAt.2 ?_
  obtain hv | ⟨f, hf, hx, hv⟩ := getLsbD_loadedAt.1 hv
  · exact .inl hv
  · obtain ⟨e, he, hef⟩ := h f hf
    exact .inr ⟨e, he, by rwa [← hef.openCount, ← hef.closeCount], hef.load v hv⟩

theorem foldl_max_le_iff {α : Type} (f : α → Nat) (l : List α) (m n : Nat) :
    l.foldl (fun m x => max m (f x)) m ≤ n ↔ m ≤ n ∧ ∀ x ∈ l, f x ≤ n := by
  induction l generalizing m with
  | nil => simp
  | cons x xs ih => simp [ih, and_assoc]

/-- The peak load is met at the new window's open count or at an open count within that window (R157). -/
theorem peakLoad_le_iff {es : List Entry} {w : Window} {vs : ValveSet} {n : Nat} :
    peakLoad es w vs ≤ n
      ↔ loadAt es vs w.openCount ≤ n
        ∧ ∀ e ∈ es, windowHolds w.openCount w.closeCount e.openCount = true → loadAt es vs e.openCount ≤ n := by
  rw [peakLoad, foldl_max_le_iff]
  simp

theorem peakLoad_mono {es fs : List Entry} (h : ∀ f ∈ fs, ∃ e ∈ es, EntryFrom e f) (w : Window) (vs : ValveSet) :
    peakLoad fs w vs ≤ peakLoad es w vs := by
  obtain ⟨hopen, hmarks⟩ := peakLoad_le_iff.1 (le_refl (peakLoad es w vs))
  refine peakLoad_le_iff.2 ⟨(loadAt_mono h vs _).trans hopen, fun f hf hw => ?_⟩
  obtain ⟨e, he, hef⟩ := h f hf
  rw [hef.openCount] at hw ⊢
  exact (loadAt_mono h vs _).trans (hmarks e he hw)

/-! #### Displacement (R158) -/

theorem mem_insertBefore {α : Type} {later : α → Bool} {x y : α} {l : List α} :
    y ∈ insertBefore later x l ↔ y = x ∨ y ∈ l := by
  induction l with
  | nil => simp [insertBefore]
  | cons z zs ih =>
    unfold insertBefore
    split
    · simp
    · simp [ih]; tauto

theorem mem_removalOrder {e : Entry} {l : List Entry} : e ∈ removalOrder l ↔ e ∈ l := by
  suffices h : ∀ (order : List Entry),
      e ∈ l.foldl (fun order e =>
        insertBefore (fun y => e.priority < y.priority || (e.priority = y.priority && !(isAfter y.openCount e.openCount))) e
          order) order ↔ e ∈ l ∨ e ∈ order by
    simpa [removalOrder] using h []
  induction l with
  | nil => simp
  | cons x xs ih => intro order; rw [List.foldl_cons, ih, mem_insertBefore, List.mem_cons]; tauto

/-- The entries of none of some tracks. -/
def withoutAll (gone : List Entry) (entries : List Entry) : List Entry :=
  entries.filter fun e => gone.all fun g => e.track ≠ g.track

/-- Displacement ends with a peak load within the limit, or with every candidate gone (R158). -/
theorem peakLoad_withoutAll_displacedBy {w : Window} {vs : ValveSet} {limit : Nat} {candidates entries : List Entry}
    (h : peakLoad (withoutAll candidates entries) w vs ≤ limit) :
    peakLoad (withoutAll (displacedBy w vs limit candidates entries) entries) w vs ≤ limit := by
  induction candidates generalizing entries with
  | nil => exact h
  | cons c cs ih =>
    have hcons (gone : List Entry) :
        withoutAll (c :: gone) entries = withoutAll gone (entries.filter fun e => e.track ≠ c.track) := by
      simp only [withoutAll, List.all_cons, List.filter_filter]
      congr 1; funext e; exact Bool.and_comm _ _
    unfold displacedBy
    split
    case isTrue hfits => simpa [withoutAll] using hfits
    case isFalse =>
      rw [hcons] at h ⊢
      exact ih h

theorem displace_departs (s : State) (e : Entry) : Departs s (displace s e) :=
  Departs.trans .of_same (schedulerEnds_departs _ _ _ _)

theorem schedulerEnds_noneOfTrack (e : Entry) (r : Result) (why : GiveUp) (s : State) :
    ∀ x ∈ (schedulerEnds e r why s).sched.entries, x.track ≠ e.track := by
  unfold schedulerEnds
  split
  · exact leave_noneOfTrack e r (schedulerGaveUp_departs _ _) s
  · exact leave_noneOfTrack e r (requestRelease_departs _ _) s
  · exact leave_noneOfTrack e r .refl s

/-- After the displacements the schedule holds only what stands for entries of the tracks not displaced. -/
theorem foldl_displace_origin (out : List Entry) (s : State) :
    ∀ x ∈ (out.foldl displace s).sched.entries, ∃ o ∈ withoutAll out s.sched.entries, EntryFrom o x := by
  induction out generalizing s with
  | nil => exact fun x hx => ⟨x, by simpa [withoutAll] using hx, .refl x⟩
  | cons c cs ih =>
    intro x hx
    obtain ⟨y, hy, hyx⟩ := ih (displace s c) x hx
    obtain ⟨hy, hyall⟩ := List.mem_filter.1 hy
    obtain ⟨o, ho, hoy⟩ := (displace_departs s c).entries y hy
    have hne : y.track ≠ c.track := schedulerEnds_noneOfTrack c _ _ _ y hy
    refine ⟨o, List.mem_filter.2 ⟨ho, ?_⟩, hoy.trans hyx⟩
    rw [← hoy.track]
    simpa [hne] using hyall

/-- The state in which a request that passed the earlier checks is admitted, but for the entry (R158). -/
def displaced (c : ClassCode) (w : Window) (kept : ValveSet) (s : State) : State :=
  (displacedBy w kept (prof s).plenumLimit
    (removalOrder (s.sched.entries.filter (displaceable w (prof s).priority[c]))) s.sched.entries).foldl displace s

theorem displaced_departs (c : ClassCode) (w : Window) (kept : ValveSet) (s : State) : Departs s (displaced c w kept s) :=
  .foldl displace_departs _ s

/-- Where the load of the entries that may not be displaced fits, displacement makes the whole load fit (R158). -/
theorem peakLoad_displaced {c : ClassCode} {w : Window} {kept : ValveSet} {s : State}
    (h : peakLoad (s.sched.entries.filter fun e => !displaceable w (prof s).priority[c] e) w kept ≤ (prof s).plenumLimit) :
    peakLoad (displaced c w kept s).sched.entries w kept ≤ (prof s).plenumLimit := by
  refine (peakLoad_mono (foldl_displace_origin _ s) w kept).trans (peakLoad_withoutAll_displacedBy ?_)
  refine (peakLoad_mono (fun e he => ⟨e, ?_, .refl e⟩) w kept).trans h
  obtain ⟨hmem, hnot⟩ := List.mem_filter.1 he
  refine List.mem_filter.2 ⟨hmem, ?_⟩
  by_contra hd
  have hcand : e ∈ removalOrder (s.sched.entries.filter (displaceable w (prof s).priority[c])) :=
    mem_removalOrder.2 (List.mem_filter.2 ⟨hmem, by simpa using hd⟩)
  simpa using List.all_eq_true.1 hnot e hcand

end Sys2Proof.Machine
end

section
namespace Sys2Proof.Machine

set_option Elab.async false

/-! #### The moves -/

/-- An entry that plenum admission lets in (R157, R158): RESERVED, with a window of the present speed, its peak load within the
limit. -/
structure Admitted (s : State) (e : Entry) : Prop where
  reserved : e.state = .reserved
  fits : ∃ (w : Window) (d : Count) (length : Nat) (c : ClassCode), w = windowOf (prof s) s.belt.speed d length c
    ∧ e.openCount = w.openCount ∧ e.closeCount = w.closeCount ∧ peakLoad s.sched.entries w e.valves ≤ (prof s).plenumLimit
  work : working s = true

/-- An entry that the open check lets open in the place of another (R160). -/
structure OpensFor (s : State) (o e : Entry) : Prop where
  openCount : e.openCount = o.openCount
  closeCount : e.closeCount = o.closeCount
  load : Within (loadSet e) (loadSet o)
  active : ∀ v : Fin 64, e.drive.getLsbD v = true → s.valves.valve[v].descriptor = .active
  supply : s.air.supply = .ready ∨ s.air.supply = .low

/-- One move of the part. Each says what it may change of what the laws read, and under which guard. -/
inductive Move (s t : State) : Prop where
  /-- Departures, and changes that no law reads. -/
  | depart (h : Departs s t)
  /-- The supply changes, and the scheduler reacts at once (R167, R180). -/
  | supply (new : Supply) (h : Departs { s with air.supply := new } t)
      (noneOpen : new = .ready ∨ new = .low ∨ ∀ e ∈ t.sched.entries, e.state ≠ .opened)
  /-- An entry is admitted (R158). -/
  | admits (e : Entry) (later : Entry → Bool) (guard : Admitted s e)
      (h : Departs { s with sched.entries := insertBefore later e s.sched.entries } t)
  /-- An entry opens (R160). -/
  | opens (base : baseOf t = baseOf s) (tracks : t.engine.tracks = s.engine.tracks)
      (origin : ∀ e ∈ t.sched.entries, ∃ o ∈ s.sched.entries, EntryFrom o e ∨ OpensFor s o e)
  /-- A track takes a second ID (R44). -/
  | merge (id : PieceId) (key : Nat) (free : trackOf id s = none)
      (alone : ∃ t ∈ s.engine.tracks, t.key = key ∧ t.aliasId = none) (h : t = modifyTrack key (mergeId id) s)
  /-- A speed window ends or begins (R3, R4). -/
  | window (list : Vector Nat 4) (speed : Nat)
      (guard : (∀ i : Fin 4, s.belt.windowList[i] ≤ 4095) → s.belt.speed ≤ 4095 →
        (∀ i : Fin 4, list[i] ≤ 4095) ∧ speed ≤ 4095)
      (h : Departs { s with belt.windowList := list, belt.speed := speed } t)
  /-- The link changes its state or what it does with the frame on the line (R84, R90 to R92). -/
  | link (state : LinkState) (frame : FrameState)
      (guard : DrivesWhenActive s → frame = .starting ∨ frame = .sending → state = .active)
      (h : Departs { s with link.state := state, link.frame := frame } t)
  /-- A map that keeps the laws takes effect, and the OPEN entries lose the valves that left ACTIVE (R165, R171). -/
  | map (m : Vector Valve 64) (lawful : MapLawful s → mapLaw m = true) (h : Departs (installMap m s) t)
  /-- The station goes on from one state to another (R191): it stops working with an empty schedule alone. -/
  | station (state : Station) (guard : working t = true ∨ t.sched.entries = [])
      (h : Departs { s with port.station := state } t)
  /-- A checked profile is in force (R192, R193). -/
  | profile (a : List Byte) (idle : working s = false) (checked : profileOffence a = none)
      (h : Departs { s with port.profile := some (profileOf a), port.station := .ready } t)
  /-- Station reset (R200). -/
  | reset (h : t = stationReset s)

/-- A chain of moves. -/
def Path : State → State → Prop := Relation.ReflTransGen Move

theorem Path.refl (s : State) : Path s s := Relation.ReflTransGen.refl

theorem Path.trans {s t u : State} (h : Path s t) (k : Path t u) : Path s u := Relation.ReflTransGen.trans h k

theorem Move.path {s t : State} (h : Move s t) : Path s t := .single h

theorem Departs.path {s t : State} (h : Departs s t) : Path s t := (Move.depart h).path

theorem Path.foldl {α : Type} {f : State → α → State} (hf : ∀ a x, Path a (f a x)) (l : List α) (s : State) :
    Path s (l.foldl f s) := by
  induction l generalizing s with
  | nil => exact .refl s
  | cons x xs ih => exact (hf s x).trans (ih _)

/-- What every move keeps is kept along every path. -/
theorem Path.keeps {P : State → Prop} (hP : ∀ s t, Move s t → P s → P t) {s t : State} (h : Path s t) (hs : P s) : P t := by
  induction h with
  | refl => exact hs
  | tail _ hm ih => exact hP _ _ hm ih

/-! #### The supply and the request for an entry -/

theorem supplyTo_path (new : Supply) (s : State) : Path s (supplyTo new s) := by
  unfold supplyTo
  split
  · exact .refl s
  refine (Move.supply new ?_ ?_).path
  · unfold supplyReaction
    split
    · exact .refl _
    · refine mapEntries_departs (fun e => ?_) _
      split
      · exact ⟨rfl, rfl, rfl, .refl _, fun h => ⟨h, .refl _⟩⟩
      · exact .refl e
    · exact (Departs.foldl (fun a e => schedulerEnds_departs e _ _ a) _ _).trans (interruptAll_departs _)
    · exact interruptAll_departs _
    · exact interruptAll_departs _
  · cases new
    case ready => exact .inl rfl
    case low => exact .inr (.inl rfl)
    all_goals exact .inr (.inr (interruptAll_noneOpen _))

theorem chargedUp_path (s : State) : Path s (chargedUp s) := by
  unfold chargedUp
  have h : Path s (supplyTo .ready { s with air.chargeTimer := none }) :=
    (Departs.of_same (s := s)).path.trans (supplyTo_path _ _)
  dsimp only
  split
  · exact h.trans (startStandbyTimer_departs _).path
  · exact h

theorem supplyRequested_path (s : State) : Path s (supplyRequested s) := by
  unfold supplyRequested
  split
  · refine (supplyTo_path .charging s).trans ?_
    dsimp only
    split
    · exact Path.trans (Departs.path .of_same) (chargedUp_path _)
    · exact Departs.path .of_same
  · exact .refl s

theorem working_of_station {s t : State} (h : t.port.station = s.port.station) : working t = working s := by
  unfold working; rw [h]

theorem station_of_spine {s t : State} (h : spine t = spine s) : t.port.station = s.port.station := by
  have hs := congrArg (fun a : State => a.port.station) h
  exact hs

theorem prof_of_spine {s t : State} (h : spine t = spine s) : prof t = prof s := by
  have hs := congrArg (fun a : State => a.port.profile.getD Profile.blank) h
  exact hs

theorem belt_of_spine {s t : State} (h : spine t = spine s) : t.belt = s.belt := by
  have hs := congrArg (fun a : State => a.belt) h
  exact hs

theorem admitEntry_path (e : Entry) (s : State) (h : Admitted s e) : Path s (admitEntry e s) := by
  refine (Move.admits e (fun y => isAfter y.openCount e.openCount) h (t := admitEntry e s) ?_).path
  unfold admitEntry
  split <;> exact .of_same

theorem admission_path (t : Track) (c : ClassCode) (d : Count) (length : Nat) (vs : ValveSet) (s : State)
    (hwork : working s = true) :
    Path s (admission t c (windowOf (prof s) s.belt.speed d length c) vs s).1 := by
  unfold admission
  dsimp only
  split
  case isTrue => exact .refl s
  case isFalse hfits =>
    set w := windowOf (prof s) s.belt.speed d length c
    set kept := trimSet s.sched.entries w (prof s).plenumLimit (prof s).coreWidth ((t.laneLo + t.laneHi) / 2 / 4) 64 vs
    have hd : Departs s (displaced c w kept s) := displaced_departs c w kept s
    have hspine : spine (displaced c w kept s) = spine s := foldl_spine _ displace_spine _ _
    refine hd.path.trans (Path.trans (Departs.of_same).path (admitEntry_path _ _ ?_))
    refine ⟨rfl, ⟨w, d, length, c, ?_, rfl, rfl, ?_⟩, ?_⟩
    · change w = windowOf (prof (displaced c w kept s)) (displaced c w kept s).belt.speed d length c
      rw [prof_of_spine hspine, belt_of_spine hspine]
    · change peakLoad (displaced c w kept s).sched.entries w kept ≤ (prof (displaced c w kept s)).plenumLimit
      rw [prof_of_spine hspine]
      exact peakLoad_displaced (not_lt.1 hfits)
    · exact (working_of_station (station_of_spine hspine)).trans hwork

theorem requestEntry_path (t : Track) (c : ClassCode) (s : State) (hwork : working s = true) :
    Path s (requestEntry t c s).1 := by
  have hsupply := supplyRequested_path s
  have hspine := supplyRequested_spine s
  unfold requestEntry
  dsimp only
  split
  · exact hsupply
  split
  · exact hsupply
  split
  · exact hsupply
  split
  · exact hsupply
  split
  · exact hsupply
  · refine hsupply.trans (admission_path t c t.d t.length _ _ ?_)
    exact (working_of_station (station_of_spine hspine)).trans hwork

/-! #### Claims and decisions -/

theorem addClaim_departs (t : Track) (c : ClassCode) (o : Count) (s : State) : Departs s (addClaim t c o s) := by
  unfold addClaim
  dsimp only
  split
  · exact dropEntry_departs _ _ s
  · rename_i hk
    refine (slotAdd_departs hk).trans ?_
    have hadd (a : State) (rs : List OwnClaim) :
        Departs a (setOwn t.key .pending { a with claim.ownClaims := rs }) :=
      Departs.trans .of_same (setOwn_departs _ _ _)
    split
    · exact (hadd _ _).trans ((removeSlot_departs _ _).trans (claimOutcome_departs _ _ _))
    · exact hadd _ _

theorem claimRequest_path (t : Track) (c : ClassCode) (s : State) (hwork : working s = true) :
    Path s (claimRequest t c s) := by
  have h := requestEntry_path t c s hwork
  unfold claimRequest
  split <;> rename_i heq <;> rw [heq] at h
  · exact h.trans (putOutcome_departs _ _).path
  · exact h.trans (addClaim_departs _ _ _ _).path

theorem working_of_claimAllowed {t : Track} {s : State} (h : claimAllowed t s = true) : working s = true := by
  simp only [claimAllowed, Bool.and_eq_true, decide_eq_true_eq] at h
  simp [working, h.2]

theorem examine_path (k : Nat) (s : State) : Path s (examine k s) := by
  unfold examine
  split
  · exact .refl s
  split
  · exact .refl s
  split
  · exact .refl s
  · exact .refl s
  split
  case isTrue hallowed =>
    split
    · exact claimRequest_path _ _ s (working_of_claimAllowed hallowed)
    · exact .refl s
  case isFalse =>
    split
    · exact Departs.path .of_same
    · exact .refl s

theorem examineIf_path (r : State × Option Nat) : Path r.1 (examineIf r) := by
  unfold examineIf
  split
  · exact .refl _
  · exact examine_path _ _

theorem handOff_path (k : Nat) (d : Decision) (c : EvalCause) (s : State) : Path s (handOff k d c s) := by
  unfold handOff
  split
  · exact .refl s
  split
  · split
    · exact examine_path k s
    · exact .refl s
  · split
    · exact .refl s
    split
    · exact .refl s
    · refine Path.trans (Departs.path ?_) (examineIf_path _)
      exact (((setOwn_departs _ _ s).trans (modifyRecord_departs _ _ _)).trans (dropEntry_departs _ _ _)).trans
        (cancelSlot_departs _ _)
  all_goals exact .refl s

theorem ownClaimFirst_path (k : Nat) (id : PieceId) (s : State) : Path s (ownClaimFirst k id s) := by
  unfold ownClaimFirst
  split
  · exact .refl s
  · rename_i r _
    refine Path.trans (Departs.path (Departs.trans
      (modifyRecord_departs r.handle (fun x => { x with met := true, metFirst := true }) s) ?_))
      (Path.trans (settleMet_departs _ _).path (examineIf_path _))
    split
    · exact .of_same
    split
    · exact Departs.trans .of_same ((setOwn_departs _ _ _).trans (armEntry_departs _ _))
    · exact requestRelease_departs _ _ _

theorem ownClaimNotFirst_path (id : PieceId) (s : State) : Path s (ownClaimNotFirst id s) := by
  unfold ownClaimNotFirst
  split
  · exact .refl s
  · rename_i r _
    refine Path.trans (Departs.path (Departs.trans (modifyRecord_departs r.handle (fun x => { x with met := true }) s) ?_))
      (Path.trans (settleMet_departs _ _).path (examineIf_path _))
    split
    · exact .of_same
    · exact .refl _

theorem foreignClaimFirst_path (t : Track) (n : Node) (s : State) : Path s (foreignClaimFirst t n s) := by
  unfold foreignClaimFirst
  split
  case isFalse => exact .refl s
  have hlost : Departs s { s with claim.lost := bump s.claim.lost } := .of_same
  refine Path.trans (hlost.trans (setOwn_departs t.key .lost _)).path ?_
  dsimp only
  split
  · exact .refl _
  · refine Path.trans (Departs.path ?_) (examineIf_path _)
    exact (modifyRecord_departs _ _ _).trans ((dropEntry_departs _ _ _).trans (cancelSlot_departs _ _))

theorem countUnknownId_departs (s : State) : Departs s (countUnknownId s) := .of_same
theorem countIgnored_departs (s : State) : Departs s (countIgnored s) := .of_same

theorem applyClaim_path (id : PieceId) (n : Node) (own : Bool) (s : State) : Path s (applyClaim id n own s) := by
  unfold applyClaim
  split
  · exact .refl s
  split
  · refine (countUnknownId_departs s).path.trans ?_
    dsimp only
    split
    · exact ownClaimNotFirst_path id _
    · exact .refl _
  split
  · rename_i t _ _ _
    refine (modifyTrack_departs t.key (fun u => { u with owner := some n }) s).path.trans ?_
    dsimp only
    split
    · exact ownClaimFirst_path _ id _
    · exact foreignClaimFirst_path _ _ _
  · refine (countIgnored_departs s).path.trans ?_
    dsimp only
    split
    · exact ownClaimNotFirst_path id _
    · exact .refl _

theorem applyRelease_path (id : PieceId) (n : Node) (own : Bool) (s : State) : Path s (applyRelease id n own s) := by
  unfold applyRelease
  split
  · exact .refl s
  split
  · exact (countUnknownId_departs s).path
  split
  case isFalse => exact (countIgnored_departs s).path
  rename_i t _ _
  refine (modifyTrack_departs t.key (releaseTrack n) s).path.trans ?_
  dsimp only
  split
  · exact .refl _
  have hlost : ∀ (k : Nat) (c : Prop) [Decidable c] (a : State), Departs a (if c then setOwn k .none a else a) := by
    intro k c _ a
    split
    · exact setOwn_departs _ _ a
    · exact .refl a
  split
  · exact (hlost _ _ _).path.trans (examine_path _ _)
  · exact (hlost _ _ _).path

theorem applyFired_departs (id : PieceId) (n : Node) (s : State) : Departs s (applyFired id n s) := by
  unfold applyFired
  split
  · exact .refl s
  split
  · exact countUnknownId_departs s
  · exact modifyTrack_departs _ _ s

theorem applyDropNotice_path (s : State) (n : DropNotice) : Path s (applyDropNotice s n) := by
  unfold applyDropNotice
  dsimp only
  split
  · exact applyClaim_path _ _ _ s
  · exact applyRelease_path _ _ _ s
  · exact (applyFired_departs _ _ s).path

theorem advanceDropNotices_path (s : State) : Path s (advanceDropNotices s) :=
  Path.trans (Departs.path .of_same) (Path.foldl applyDropNotice_path _ _)

theorem claimNeverFirst_path (id : PieceId) (s : State) : Path s (claimNeverFirst id s) := by
  unfold claimNeverFirst
  split
  · exact .refl s
  · rename_i r _
    refine Path.trans (Departs.path (Departs.trans (modifyRecord_departs r.handle (fun x => { x with met := true }) s) ?_))
      (Path.trans (settleMet_departs _ _).path (examineIf_path _))
    split
    · exact (setOwn_departs _ _ _).trans (dropEntry_departs _ _ _)
    · exact .refl _

theorem reportOwnDrop_path (k : UrgentKind) (id : PieceId) (l : Count) (s : State) : Path s (reportOwnDrop k id l s) := by
  unfold reportOwnDrop
  split
  case isTrue => exact Departs.path .of_same
  case isFalse =>
    split
    · exact claimNeverFirst_path id s
    · exact .refl s
    · exact .refl s

theorem evaluate_path (k : Nat) (c : EvalCause) (s : State) : Path s (evaluate k c s) := by
  unfold evaluate
  split
  · exact .refl s
  · rename_i t _
    refine Path.trans (Departs.path (Departs.trans (modifyTrack_departs k
      (fun u => { u with decision := decisionOf (prof s) s.engine.mode t.accumulators }) s) ?_)) (handOff_path _ _ _ _)
    split
    · exact .of_same
    · exact .refl _

theorem meetPoint_path (k : Nat) (s : State) : Path s (meetPoint k s) := by
  unfold meetPoint
  split
  · exact .refl s
  · refine (modifyTrack_departs k (fun u => { u with pointMet := true }) s).path.trans ?_
    dsimp only
    split
    · exact evaluate_path _ _ _
    · exact .refl _

theorem handToEvaluation_path (m : Mode) (k : Nat) (s : State) : Path s (handToEvaluation m k s) := by
  unfold handToEvaluation
  split
  · exact .refl s
  · split
    · exact evaluate_path _ _ s
    · exact .refl s

theorem handNewTrack_path (m : Mode) (k : Nat) (s : State) : Path s (handNewTrack m k s) := by
  unfold handNewTrack
  split
  · exact .refl s
  · split
    · exact meetPoint_path k s
    · exact handToEvaluation_path m k s

end Sys2Proof.Machine
end

/-! ### The laws of the valve map (R170) -/

section
namespace Sys2Proof.Machine

set_option Elab.async false

theorem descAt_eq_some {m : Vector Valve 64} {v : Nat} {d : Descriptor} :
    descAt m v = some d ↔ ∃ h : v < 64, m[v].descriptor = d := by
  unfold descAt
  by_cases h : v < 64 <;> simp [h]

theorem descAt_fin (m : Vector Valve 64) (v : Fin 64) : descAt m v = some m[v].descriptor :=
  descAt_eq_some.2 ⟨v.isLt, rfl⟩

theorem descAt_set (m : Vector Valve 64) (v : Fin 64) (x : Valve) (u : Nat) :
    descAt (m.set v x) u = if u = v.val then some x.descriptor else descAt m u := by
  unfold descAt
  by_cases h : u = v.val
  · subst h; simp
  · simp [h, Ne.symm h]

/-- The laws read off valve by valve: a covered valve has an ACTIVE cover at its side, and no valve covers both neighbours. -/
structure LawfulMap (m : Vector Valve 64) : Prop where
  left : ∀ v, descAt m v = some .coveredLeft → 1 ≤ v ∧ descAt m (v - 1) = some .active
  right : ∀ v, descAt m v = some .coveredRight → descAt m (v + 1) = some .active
  single : ∀ u, 1 ≤ u → descAt m (u - 1) = some .coveredRight → descAt m (u + 1) ≠ some .coveredLeft
  size : coverTableSize m ≤ Config.coverSize

theorem coverOk_iff {m : Vector Valve 64} {v : Nat} :
    coverOk m v = true
      ↔ (descAt m v = some .coveredLeft → 1 ≤ v ∧ descAt m (v - 1) = some .active)
        ∧ (descAt m v = some .coveredRight → descAt m (v + 1) = some .active) := by
  unfold coverOk
  split <;> simp_all

theorem coversBoth_iff {m : Vector Valve 64} {u : Nat} :
    coversBoth m u = true ↔ 1 ≤ u ∧ descAt m (u - 1) = some .coveredRight ∧ descAt m (u + 1) = some .coveredLeft := by
  simp [coversBoth, and_assoc]

theorem mapLaw_iff {m : Vector Valve 64} : mapLaw m = true ↔ LawfulMap m := by
  have hlt {v : Nat} {d : Descriptor} (h : descAt m v = some d) : v < 64 := (descAt_eq_some.1 h).1
  simp only [mapLaw, Bool.and_eq_true, List.all_eq_true, List.mem_range, coverOk_iff, decide_eq_true_eq, Bool.not_eq_true',
    Bool.eq_false_iff, ne_eq, coversBoth_iff]
  constructor
  · rintro ⟨⟨hok, hboth⟩, hsize⟩
    exact ⟨fun v hv => (hok v (hlt hv)).1 hv, fun v hv => (hok v (hlt hv)).2 hv,
      fun u hu hl hr => hboth u (by have := hlt hr; omega) ⟨hu, hl, hr⟩, hsize⟩
  · intro h
    exact ⟨⟨fun v _ => ⟨h.left v, h.right v⟩, fun u _ ⟨hu, hl, hr⟩ => h.single u hu hl hr⟩, h.size⟩

theorem lawfulMap_of_descAt {m n : Vector Valve 64} (h : ∀ v, descAt n v = descAt m v) (hs : coverTableSize n ≤ coverTableSize m)
    (hm : LawfulMap m) : LawfulMap n where
  left v := by simpa only [h] using hm.left v
  right v := by simpa only [h] using hm.right v
  single u := by simpa only [h] using hm.single u
  size := hs.trans hm.size

theorem descAt_of_descriptors {m n : Vector Valve 64} (h : n.map (·.descriptor) = m.map (·.descriptor)) (v : Nat) :
    descAt n v = descAt m v := by
  have hv := congrArg (fun w : Vector Descriptor 64 => w[v]?) h
  simpa [descAt] using hv

theorem descriptor_of_descriptors {m n : Vector Valve 64} (h : n.map (·.descriptor) = m.map (·.descriptor)) (v : Fin 64) :
    n[v].descriptor = m[v].descriptor := by
  have hv := descAt_of_descriptors h v
  rwa [descAt_fin, descAt_fin, Option.some.injEq] at hv

/-- The laws read the descriptors alone. -/
theorem mapLaw_of_descriptors {m n : Vector Valve 64} (h : n.map (·.descriptor) = m.map (·.descriptor)) :
    mapLaw n = mapLaw m := by
  have hsize : coverTableSize n = coverTableSize m := by
    unfold coverTableSize
    congr 1
    exact List.filter_congr fun v _ => by rw [descriptor_of_descriptors h]
  refine Bool.eq_iff_iff.2 (mapLaw_iff.trans (Iff.trans ⟨?_, ?_⟩ mapLaw_iff.symm))
  · exact lawfulMap_of_descAt (fun v => (descAt_of_descriptors h v).symm) hsize.ge
  · exact lawfulMap_of_descAt (descAt_of_descriptors h) hsize.le

/-! #### An edit -/

theorem mapLaw_of_editFault_none {pairs : List (Nat × Nat)} {m : Vector Valve 64} (h : editFault pairs m = none) :
    mapLaw (editedMap pairs m) = true := by
  unfold editFault at h
  dsimp only at h
  split at h
  · cases h
  split at h
  · cases h
  split at h
  · cases h
  rename_i hok
  split at h
  · cases h
  rename_i hboth
  split at h
  · cases h
  rename_i hsize
  simp only [List.find?_eq_none, Bool.not_eq_true, Bool.not_eq_false'] at hok hboth
  simp only [mapLaw, Bool.and_eq_true, List.all_eq_true, decide_eq_true_eq, Bool.not_eq_true']
  exact ⟨⟨hok, hboth⟩, not_lt.1 hsize⟩

/-! #### Driver faults -/

theorem coverOf_eq_some {m : Vector Valve 64} {v u : Nat} :
    coverOf m v = some u
      ↔ descAt m v = some .coveredLeft ∧ v - 1 = u ∨ descAt m v = some .coveredRight ∧ v + 1 = u := by
  unfold coverOf
  split <;> simp_all

theorem isReleased_iff {mask : ValveSet} {m : Vector Valve 64} {v : Nat} :
    isReleased mask m v = true ↔ ∃ u, coverOf m v = some u ∧ isFaulted mask m u = true := by
  unfold isReleased
  split <;> simp_all

theorem isFaulted_iff {mask : ValveSet} {m : Vector Valve 64} {v : Nat} :
    isFaulted mask m v = true ↔ mask.getLsbD v = true ∧ descAt m v = some .active := by
  simp [isFaulted]

/-- The valve is faulted or released (R174). -/
def isOut (mask : ValveSet) (m : Vector Valve 64) (v : Nat) : Bool := isFaulted mask m v || isReleased mask m v

theorem mem_outOfService {mask : ValveSet} {m : Vector Valve 64} {v : Fin 64} :
    v ∈ outOfService mask m ↔ isOut mask m v = true := by
  simp [outOfService, isOut]

theorem retiredMap_getElem (mask : ValveSet) (m : Vector Valve 64) (v : Fin 64) :
    (retiredMap mask m)[v] = if isOut mask m v then { m[v] with descriptor := .retired } else m[v] :=
  Vector.getElem_ofFn v.isLt

theorem descAt_retiredMap (mask : ValveSet) (m : Vector Valve 64) (v : Nat) :
    descAt (retiredMap mask m) v = if v < 64 ∧ isOut mask m v then some .retired else descAt m v := by
  by_cases h : v < 64
  · have hv := descAt_fin (retiredMap mask m) ⟨v, h⟩
    have hm := descAt_fin m ⟨v, h⟩
    rw [retiredMap_getElem] at hv
    change descAt (retiredMap mask m) v = _ at hv
    change descAt m v = _ at hm
    rw [hv, hm]
    by_cases ho : isOut mask m v = true <;> simp [h, ho]
  · simp [h, descAt]

/-- A covered valve whose cover is retired goes with it, so the covers left are ACTIVE still. -/
theorem lawfulMap_retiredMap {mask : ValveSet} {m : Vector Valve 64} (h : LawfulMap m) : LawfulMap (retiredMap mask m) := by
  have hkept {v : Nat} {d : Descriptor} (hd : d ≠ .retired) (hv : descAt (retiredMap mask m) v = some d) :
      isOut mask m v = false ∧ descAt m v = some d := by
    rw [descAt_retiredMap] at hv
    split at hv
    · cases hv; contradiction
    · rename_i hn
      have hlt := (descAt_eq_some.1 hv).1
      exact ⟨by simpa [hlt] using hn, hv⟩
  have hcover {v u : Nat} (hc : coverOf m v = some u) (hu : descAt m u = some .active) (hv : isOut mask m v = false) :
      descAt (retiredMap mask m) u = some .active := by
    rw [descAt_retiredMap, if_neg, hu]
    rintro ⟨-, hout⟩
    have hfault : isFaulted mask m u = true := by
      simp only [isOut, Bool.or_eq_true] at hout
      refine hout.resolve_right fun hrel => ?_
      obtain ⟨w, hw, -⟩ := isReleased_iff.1 hrel
      obtain ⟨hd, -⟩ | ⟨hd, -⟩ := coverOf_eq_some.1 hw <;> rw [hd] at hu <;> cases hu
    simp only [isOut, Bool.or_eq_false_iff] at hv
    exact absurd (isReleased_iff.2 ⟨u, hc, hfault⟩) (by simp [hv.2])
  refine ⟨fun v hv => ?_, fun v hv => ?_, fun u hu hl hr => ?_, ?_⟩
  · obtain ⟨hin, hv⟩ := hkept (by decide) hv
    obtain ⟨hle, hact⟩ := h.left v hv
    exact ⟨hle, hcover (coverOf_eq_some.2 (.inl ⟨hv, rfl⟩)) hact hin⟩
  · obtain ⟨hin, hv⟩ := hkept (by decide) hv
    exact hcover (coverOf_eq_some.2 (.inr ⟨hv, rfl⟩)) (h.right v hv) hin
  · exact h.single u hu (hkept (by decide) hl).2 (hkept (by decide) hr).2
  · refine le_trans (List.Sublist.length_le (List.monotone_filter_right _ fun v hv => ?_)) h.size
    rw [retiredMap_getElem] at hv
    split at hv
    · simp [isCovered] at hv
    · exact hv

/-! #### Auto-cover -/

theorem coverTableSize_set_le (m : Vector Valve 64) (v : Fin 64) (x : Valve) :
    coverTableSize (m.set v x) ≤ coverTableSize m + 1 := by
  have hor (l : List (Fin 64)) :
      l.countP (fun u => isCovered (m.set v x)[u].descriptor)
        ≤ l.countP (fun u => isCovered m[u].descriptor) + l.count v := by
    induction l with
    | nil => simp
    | cons u us ih =>
      rw [List.countP_cons, List.countP_cons, List.count_cons]
      by_cases huv : u = v
      · simp only [huv, beq_self_eq_true, if_true]
        split <;> split <;> omega
      · have hsame : (m.set v x)[u] = m[u] := by simp [Fin.val_ne_of_ne (Ne.symm huv)]
        rw [hsame]
        omega
  have hone := List.nodup_iff_count_le_one.1 (List.nodup_finRange 64) v
  simp only [coverTableSize, ← List.countP_eq_length_filter]
  exact (hor (List.finRange 64)).trans (Nat.add_le_add_left hone _)

theorem rightQualifies_iff {m : Vector Valve 64} {v : Nat} :
    rightQualifies m v = true
      ↔ descAt m (v + 1) = some .active ∧ descAt m (v + 2) ≠ some .coveredLeft ∧ coverTableSize m < Config.coverSize := by
  simp [rightQualifies, and_assoc]

theorem leftQualifies_iff {m : Vector Valve 64} {v : Nat} :
    leftQualifies m v = true
      ↔ 1 ≤ v ∧ descAt m (v - 1) = some .active ∧ ¬(2 ≤ v ∧ descAt m (v - 2) = some .coveredRight)
        ∧ coverTableSize m < Config.coverSize := by
  simp [leftQualifies, and_assoc, imp_iff_not_or]

/-- A RETIRED valve covers nobody, so covering it by its right neighbour can break no other cover. -/
theorem lawfulMap_set_coveredRight {m : Vector Valve 64} {v : Fin 64} (x : Valve) (hm : LawfulMap m)
    (hret : descAt m v = some .retired) (hq : rightQualifies m v = true) :
    LawfulMap (m.set v { x with descriptor := .coveredRight }) := by
  obtain ⟨hact, hfree, hroom⟩ := rightQualifies_iff.1 hq
  have hactive {u : Nat} (hu : descAt m u = some .active) :
      descAt (m.set v { x with descriptor := .coveredRight }) u = some .active := by
    rw [descAt_set, if_neg, hu]
    rintro rfl; rw [hret] at hu; cases hu
  refine ⟨fun u hu => ?_, fun u hu => ?_, fun u hu hl hr => ?_, ?_⟩
  · rw [descAt_set] at hu
    split at hu
    · cases hu
    · exact ⟨(hm.left u hu).1, hactive (hm.left u hu).2⟩
  · rw [descAt_set] at hu
    split at hu
    · rename_i h; subst h; exact hactive hact
    · exact hactive (hm.right u hu)
  · rw [descAt_set] at hl hr
    split at hr
    · cases hr
    split at hl
    · rename_i h
      have : u + 1 = v.val + 2 := by omega
      exact hfree (this ▸ hr)
    · exact hm.single u hu hl hr
  · exact (coverTableSize_set_le m v _).trans hroom

theorem lawfulMap_set_coveredLeft {m : Vector Valve 64} {v : Fin 64} (x : Valve) (hm : LawfulMap m)
    (hret : descAt m v = some .retired) (hq : leftQualifies m v = true) :
    LawfulMap (m.set v { x with descriptor := .coveredLeft }) := by
  obtain ⟨hpos, hact, hfree, hroom⟩ := leftQualifies_iff.1 hq
  have hactive {u : Nat} (hu : descAt m u = some .active) :
      descAt (m.set v { x with descriptor := .coveredLeft }) u = some .active := by
    rw [descAt_set, if_neg, hu]
    rintro rfl; rw [hret] at hu; cases hu
  refine ⟨fun u hu => ?_, fun u hu => ?_, fun u hu hl hr => ?_, ?_⟩
  · rw [descAt_set] at hu
    split at hu
    · rename_i h; subst h; exact ⟨hpos, hactive hact⟩
    · exact ⟨(hm.left u hu).1, hactive (hm.left u hu).2⟩
  · rw [descAt_set] at hu
    split at hu
    · cases hu
    · exact hactive (hm.right u hu)
  · rw [descAt_set] at hl hr
    split at hl
    · cases hl
    split at hr
    · rename_i h
      have : u - 1 = v.val - 2 := by omega
      exact hfree ⟨by omega, this ▸ hl⟩
    · exact hm.single u hu hl hr
  · exact (coverTableSize_set_le m v _).trans hroom

/-- What auto-cover of one valve makes of a map and a count: nothing, or one more covered valve. -/
theorem autoCoverOne_cases (a : Vector Valve 64 × Nat) (v : Fin 64) :
    rightQualifies a.1 v = true ∧ autoCoverOne a v = (a.1.set v { a.1[v] with descriptor := .coveredRight }, a.2 + 1)
      ∨ rightQualifies a.1 v = false ∧ leftQualifies a.1 v = true
        ∧ autoCoverOne a v = (a.1.set v { a.1[v] with descriptor := .coveredLeft }, a.2 + 1)
      ∨ rightQualifies a.1 v = false ∧ leftQualifies a.1 v = false ∧ autoCoverOne a v = a := by
  unfold autoCoverOne
  split
  · exact .inl ⟨‹_›, rfl⟩
  · split
    · exact .inr (.inl ⟨eq_false_of_ne_true ‹_›, ‹_›, rfl⟩)
    · exact .inr (.inr ⟨eq_false_of_ne_true ‹_›, eq_false_of_ne_true ‹_›, rfl⟩)

theorem descAt_autoCoverOne_ne (a : Vector Valve 64 × Nat) {v : Fin 64} {u : Nat} (h : u ≠ v.val) :
    descAt (autoCoverOne a v).1 u = descAt a.1 u := by
  obtain ⟨-, h'⟩ | ⟨-, -, h'⟩ | ⟨-, -, h'⟩ := autoCoverOne_cases a v
  · rw [h', descAt_set, if_neg h]
  · rw [h', descAt_set, if_neg h]
  · rw [h']

theorem lawfulMap_foldl_autoCoverOne {vs : List (Fin 64)} (hvs : vs.Nodup) (a : Vector Valve 64 × Nat) (ha : LawfulMap a.1)
    (hret : ∀ v ∈ vs, descAt a.1 v = some .retired) : LawfulMap (vs.foldl autoCoverOne a).1 := by
  induction vs generalizing a with
  | nil => exact ha
  | cons v vs ih =>
    obtain ⟨hnot, hvs⟩ := List.nodup_cons.1 hvs
    obtain ⟨hv, hrest⟩ := List.forall_mem_cons.1 hret
    refine ih hvs _ ?_ fun u hu => ?_
    · obtain ⟨hq, h⟩ | ⟨-, hq, h⟩ | ⟨-, -, h⟩ := autoCoverOne_cases a v
      · rw [h]; exact lawfulMap_set_coveredRight _ ha hv hq
      · rw [h]; exact lawfulMap_set_coveredLeft _ ha hv hq
      · rwa [h]
    · have hne : u.val ≠ v.val := fun h => hnot (Fin.ext (a := u) h ▸ hu)
      rw [descAt_autoCoverOne_ne a hne]
      exact hrest u hu

/-- The map a fault mask leaves keeps the laws (R174, R175). -/
theorem lawfulMap_autoCovered {auto : Bool} {mask : ValveSet} {m : Vector Valve 64} (h : LawfulMap m) :
    LawfulMap (autoCovered auto (outOfService mask m) (retiredMap mask m)).1 := by
  unfold autoCovered
  split
  · refine lawfulMap_foldl_autoCoverOne ((List.nodup_finRange 64).filter _) _ (lawfulMap_retiredMap h) fun v hv => ?_
    rw [descAt_retiredMap, if_pos ⟨v.isLt, mem_outOfService.1 hv⟩]
  · exact lawfulMap_retiredMap h

end Sys2Proof.Machine
end

/-! ### Every command is a chain of moves -/

section
namespace Sys2Proof.Machine

set_option Elab.async false

/-! #### The belt and the supply -/

/-- The belt after the encoder edge of a command; any other command leaves the belt count (R1). -/
def rolled (c : Instr) (s : State) : State :=
  match c with
  | .encoderEdge .forward => { s with belt := stepForward s.belt }
  | .encoderEdge .reverse => { s with belt := stepReverse s.belt }
  | _ => s

theorem syncBar_departs (s : State) : Departs s (syncBar s) := by
  obtain ⟨b, h⟩ := syncBar_eq s
  rw [h]
  exact .of_same

theorem clockTo_departs (t : Nat) (s : State) : Departs s (clockTo t s) := .of_same

theorem flagStop_departs (m : Motion) (s : State) : Departs s (flagStop m s) := by
  unfold flagStop; split <;> exact .of_same

theorem motionTo_departs (m : Motion) (s : State) : Departs s (motionTo m s) := by
  unfold motionTo
  split
  · exact .refl s
  have h : Departs s { flagStop m s with belt.motion := m } := (flagStop_departs m s).trans .of_same
  dsimp only
  split
  · exact h
  · exact h.trans (interruptAll_departs _)

theorem modeAtStrobe_departs (s : State) : Departs s (modeAtStrobe s) := by
  unfold modeAtStrobe
  dsimp only
  repeat' split
  all_goals exact .of_same

theorem strobeIfDue_departs (s : State) : Departs s (strobeIfDue s) := by
  unfold strobeIfDue
  split
  · exact Departs.trans .of_same (modeAtStrobe_departs _)
  · exact .refl s

theorem windowSpeed_le {w : Vector Nat 4} (h : ∀ i : Fin 4, w[i] ≤ 4095) : windowSpeed w ≤ 4095 := by
  have h0 := h 0; have h1 := h 1; have h2 := h 2; have h3 := h 3
  simp only [Fin.getElem_fin] at h0 h1 h2 h3
  unfold windowSpeed
  change w[0] ≤ _ at h0; change w[1] ≤ _ at h1; change w[2] ≤ _ at h2; change w[3] ≤ _ at h3
  omega

theorem windowShift_le {w : Vector Nat 4} {f : Nat} (h : ∀ i : Fin 4, w[i] ≤ 4095) (hf : f ≤ 4095) :
    ∀ i : Fin 4, (windowShift w f)[i] ≤ 4095 := by
  intro i
  fin_cases i
  · exact h 1
  · exact h 2
  · exact h 3
  · exact hf

theorem windowEnded_path (t : Nat) (m : Motion) (s : State) :
    Path s (clockTo t { s with belt := windowEnded t m s.belt }) := by
  refine (Move.window (windowShift s.belt.windowList (windowFigure s.belt.forward s.belt.reverse)) (speedAtEnd s.belt)
    (fun h _ => ?_) .of_same).path
  have hw := windowShift_le h (f := windowFigure s.belt.forward s.belt.reverse) (min_le_left _ _)
  exact ⟨hw, windowSpeed_le hw⟩

theorem execSpeedWindowEnd_path {s t : State} (h : execSpeedWindowEnd s = .next t) : Path s t := by
  unfold execSpeedWindowEnd at h
  split at h
  · cases h; exact .refl s
  · rename_i t0 _
    cases h
    have hmotion := (windowEnded_path t0 (motionAtEnd s.belt (speedAtEnd s.belt) (prof s).sMin) s).trans
      (motionTo_departs (motionAtEnd s.belt (speedAtEnd s.belt) (prof s).sMin) _).path
    refine hmotion.trans (Path.trans ?_ (syncBar_departs _).path)
    split
    · exact (strobeIfDue_departs _).path
    · exact .refl _

theorem pressureUp_path (s : State) : Path s (pressureUp s) := by
  unfold pressureUp
  split
  · exact chargedUp_path s
  · exact supplyTo_path _ s
  all_goals exact .refl s

theorem pressureDown_path (s : State) : Path s (pressureDown s) := by
  unfold pressureDown
  split
  · exact supplyTo_path _ s
  all_goals exact .refl s

theorem execPressureOkActive_path {s t : State} (h : execPressureOkActive s = .next t) : Path s t := by
  unfold execPressureOkActive at h
  dsimp only at h
  have hp : Path s { s with air.pressureOk := true } := Departs.path .of_same
  split at h <;> cases h
  · exact hp.trans ((pressureUp_path _).trans (syncBar_departs _).path)
  · exact hp

theorem execPressureOkInactive_path {s t : State} (h : execPressureOkInactive s = .next t) : Path s t := by
  unfold execPressureOkInactive at h
  dsimp only at h
  have hp : Path s { s with air.pressureOk := false } := Departs.path .of_same
  split at h <;> cases h
  · exact hp.trans ((pressureDown_path _).trans (syncBar_departs _).path)
  · exact hp

theorem execChargeTimerExpiry_path {s t : State} (h : execChargeTimerExpiry s = .next t) : Path s t := by
  unfold execChargeTimerExpiry at h
  split at h <;> cases h
  · exact Path.trans (Departs.path .of_same) ((supplyTo_path _ _).trans (syncBar_departs _).path)
  · exact .refl s

theorem execStandbyTimerExpiry_path {s t : State} (h : execStandbyTimerExpiry s = .next t) : Path s t := by
  unfold execStandbyTimerExpiry at h
  split at h
  · cases h; exact .refl s
  split at h <;> cases h
  · exact Path.trans (Departs.path .of_same) ((supplyTo_path _ _).trans (syncBar_departs _).path)
  · exact .refl s

/-! #### The intake, the chute check and the membership unit -/

theorem joinIntake_departs (e : IntakeEntry) (s : State) : Departs s (joinIntake e s) := by
  unfold joinIntake
  dsimp only
  repeat' split
  all_goals exact .of_same

theorem takeRecord_departs (b : List Byte) (p : Bool) (s : State) : Departs s (takeRecord b p s) := by
  unfold takeRecord queueRecord
  repeat' split
  all_goals first | exact .of_same | exact joinIntake_departs _ s

theorem execRecordComplete_path {b : List Byte} {e : RecordEnd} {s t : State} (h : execRecordComplete b e s = .next t) :
    Path s t := by
  unfold execRecordComplete at h
  split at h <;> cases h
  · exact Departs.path .of_same
  · unfold completeRecord
    refine Departs.path (Departs.trans (t := { s with intake.reception := .idle }) .of_same ?_)
    dsimp only
    split
    · exact takeRecord_departs _ _ _
    · exact takeRecord_departs _ _ _
    · exact .refl _

theorem requestConfirm_departs (id : PieceId) (r : ConfirmResult) (s : State) : Departs s (requestConfirm id r s) := by
  refine Departs.trans ?_ (addNotice_departs _ _ (fun a => .of_same) _)
  cases r <;> exact .of_same

theorem roomForExpectation_departs (s : State) : Departs s (roomForExpectation s) := by
  unfold roomForExpectation
  repeat' split
  all_goals exact .of_same

theorem putExpectation_departs (id : PieceId) (a b : Count) (s : State) : Departs s (putExpectation id a b s) := by
  unfold putExpectation
  refine (roomForExpectation_departs s).trans ?_
  dsimp only
  split
  · exact Departs.trans .of_same (requestConfirm_departs _ _ _)
  · exact .of_same

theorem chuteTakesFired_departs (id : PieceId) (n : Node) (l : Count) (c : BitVec 16) (s : State) :
    Departs s (chuteTakesFired id n l c s) := by
  unfold chuteTakesFired watchedFired
  split
  · refine Departs.trans (t := { s with chute.firedTaken := bump s.chute.firedTaken }) .of_same ?_
    dsimp only
    split
    · exact Departs.trans .of_same (requestConfirm_departs _ _ _)
    · exact putExpectation_departs _ _ _ _
  · exact .refl s

theorem takeArrival_departs (a : Arrival) (s : State) : Departs s (takeArrival a s) := by
  unfold takeArrival
  split
  · exact .of_same
  split
  · exact Departs.trans .of_same (requestConfirm_departs _ _ _)
  · unfold holdArrival
    dsimp only
    split <;> exact .of_same

theorem execArrivalEntryTaken_path {s t : State} (h : execArrivalEntryTaken s = .next t) : Path s t := by
  unfold execArrivalEntryTaken at h
  repeat' split at h
  all_goals cases h
  · exact Departs.path (Departs.trans .of_same (takeArrival_departs _ _))
  all_goals exact .refl s

theorem execExpectationExpiry_path {id : PieceId} {s t : State} (h : execExpectationExpiry id s = .next t) : Path s t := by
  unfold execExpectationExpiry at h
  repeat' split at h
  all_goals cases h
  · exact .refl s
  · exact Departs.path (Departs.trans .of_same (requestConfirm_departs _ _ _))
  · exact .refl s

theorem execHeldArrivalLeave_path {s t : State} (h : execHeldArrivalLeave s = .next t) : Path s t := by
  unfold execHeldArrivalLeave at h
  repeat' split at h
  all_goals cases h
  all_goals exact Departs.path .of_same

theorem flagPeerChange_departs (a b : PeerState) (s : State) : Departs s (flagPeerChange a b s) := by
  unfold flagPeerChange; split <;> exact .of_same

theorem superviseSlot_departs (n : Node) (d : Nat) (s : State) : Departs s (superviseSlot n d s) := by
  unfold superviseSlot
  have h (p : Peer) (a b : PeerState) : Departs s (flagPeerChange a b (setPeer n p s)) :=
    Departs.trans .of_same (flagPeerChange_departs _ _ _)
  dsimp only
  split
  · exact (h _ _ _).trans .of_same
  · exact h _ _ _

theorem superviseOverdue_departs (n : Node) (fuel : Nat) (s : State) : Departs s (superviseOverdue n fuel s) := by
  induction fuel generalizing s with
  | zero => exact .refl s
  | succ fuel ih =>
    unfold superviseOverdue
    split
    · exact .refl s
    · split
      · exact (superviseSlot_departs _ _ s).trans (ih _)
      · exact .refl s

theorem recordHeartbeat_departs (n : Node) (h : Heartbeat) (s : State) : Departs s (recordHeartbeat n h s) := by
  unfold recordHeartbeat
  have hflag (p : Peer) (a b : PeerState) : Departs s (flagPeerChange a b (setPeer n p s)) :=
    Departs.trans .of_same (flagPeerChange_departs _ _ _)
  dsimp only
  split <;> split
  · exact (hflag _ _ _).trans .of_same
  · exact (hflag _ _ _).trans .of_same
  · exact (hflag _ _ _).trans .of_same
  · exact hflag _ _ _

theorem takeHeartbeat_departs (n : Node) (h : Heartbeat) (s : State) : Departs s (takeHeartbeat n h s) := by
  unfold takeHeartbeat
  split
  · exact .refl s
  · exact (superviseOverdue_departs _ _ s).trans (recordHeartbeat_departs _ _ _)

theorem execSupervisionDeadline_path {n : Node} {s t : State} (h : execSupervisionDeadline n s = .next t) : Path s t := by
  unfold execSupervisionDeadline at h
  repeat' split at h
  all_goals cases h
  · exact .refl s
  · exact .refl s
  · exact ((clockTo_departs _ s).trans (superviseSlot_departs _ _ _)).path

theorem addHeartbeat_departs (s : State) : Departs s (addHeartbeat s) := by
  unfold addHeartbeat
  split
  · exact .of_same
  · exact (slotAdd_departs ‹_›).trans .of_same

theorem cancelHeartbeat_departs (s : State) : Departs s (cancelHeartbeat s) := by
  unfold cancelHeartbeat
  split
  · exact .refl s
  · exact cancelSlot_departs _ s

theorem execHeartbeatTimerExpiry_path {s t : State} (h : execHeartbeatTimerExpiry s = .next t) : Path s t := by
  unfold execHeartbeatTimerExpiry at h
  split at h <;> cases h
  · exact .refl s
  · rename_i t0 _
    refine Departs.path (Departs.trans (t := heartbeatFrom t0 (clockTo t0 s)) .of_same ?_)
    exact ((cancelHeartbeat_departs _).trans (addHeartbeat_departs _)).trans (syncBar_departs _)

/-! #### The claim unit and the firing scheduler -/

theorem urgentRest_departs (rest : List QueueEntry) (s : State) : Departs s (urgentRest rest s) := .of_same

theorem execClaimEntryTaken_path {s t : State} (h : execClaimEntryTaken s = .next t) : Path s t := by
  unfold execClaimEntryTaken at h
  split at h
  · cases h; exact .refl s
  split at h <;> cases h
  · exact (urgentRest_departs _ s).path.trans ((applyClaim_path _ _ _ _).trans
      ((advanceDropNotices_path _).trans (syncBar_departs _).path))
  all_goals exact .refl s

theorem execReleaseEntryTaken_path {s t : State} (h : execReleaseEntryTaken s = .next t) : Path s t := by
  unfold execReleaseEntryTaken at h
  split at h
  · cases h; exact .refl s
  split at h <;> cases h
  · exact (urgentRest_departs _ s).path.trans ((applyRelease_path _ _ _ _).trans
      ((advanceDropNotices_path _).trans (syncBar_departs _).path))
  all_goals exact .refl s

theorem handFired_departs (id : PieceId) (n : Node) (l : Count) (c : BitVec 16) (s : State) :
    Departs s (handFired id n l c s) := by
  unfold handFired
  split
  · exact chuteTakesFired_departs _ _ _ _ s
  · exact .refl s

theorem execFiredEntryTaken_path {s t : State} (h : execFiredEntryTaken s = .next t) : Path s t := by
  unfold execFiredEntryTaken at h
  split at h
  · cases h; exact .refl s
  split at h <;> cases h
  · exact Path.trans (((urgentRest_departs _ s).trans (applyFired_departs _ _ _)).trans (handFired_departs _ _ _ _ _)).path
      ((advanceDropNotices_path _).trans (syncBar_departs _).path)
  all_goals exact .refl s

theorem mem_entries_of_entryOf {id : PieceId} {s : State} {e : Entry} (h : entryOf id s = some e) : e ∈ s.sched.entries := by
  unfold entryOf at h
  split at h
  · cases h
  · exact List.mem_of_find?_eq_some h

theorem getLsbD_activeValves {s : State} {v : Fin 64} :
    (activeValves s).getLsbD v = true ↔ s.valves.valve[v].descriptor = .active := by
  unfold activeValves
  have h := getLsbD_foldl_union (fun u : Fin 64 => decide (s.valves.valve[u].descriptor = .active)) (fun u => valveBit u)
    (List.finRange 64) 0 v
  simp only [decide_eq_true_eq] at h
  rw [h]
  simp only [valveBit, BitVec.getLsbD_twoPow, List.mem_finRange]
  constructor
  · rintro (hz | ⟨u, -, hu, hv⟩)
    · simp at hz
    · simp only [Bool.and_eq_true, decide_eq_true_eq] at hv
      rwa [← Fin.ext hv.2]
  · exact fun hv => .inr ⟨v, trivial, hv, by simp⟩

theorem countFirings_descriptors (vs : ValveSet) (m : ValveMap) :
    (countFirings vs m).valve.map (·.descriptor) = m.valve.map (·.descriptor) := by
  apply Vector.ext
  intro i hi
  simp only [countFirings, Vector.getElem_map, Vector.getElem_ofFn]
  split <;> rfl

theorem within_and_left (vs ws : ValveSet) : Within (vs &&& ws) vs := by
  intro v h
  simp only [BitVec.getLsbD_and, Bool.and_eq_true] at h
  exact h.1

/-- What an ARMED entry becomes when the open check passes (R160). -/
def openedEntry (e : Entry) (s : State) : Entry :=
  { e with
    valves := e.valves &&& activeValves s
    state := .opened
    drive := e.valves &&& activeValves s
    weak := e.weak || s.air.supply = .low
    guard := some (s.clock + (prof s).maxOnTime) }

/-- The state after the open check of an entry has passed, its firings counted (R160, R176). -/
def opened (e : Entry) (s : State) : State :=
  { setEntry (openedEntry e s) s with valves := countFirings (e.valves &&& activeValves s) s.valves }

theorem opened_path {e : Entry} {s : State} (hmem : e ∈ s.sched.entries) (harmed : e.state = .armed)
    (hair : s.air.supply = .ready ∨ s.air.supply = .low) : Path s (opened e s) := by
  refine (Move.opens (s := s) (t := opened e s) ?_ rfl fun x hx => ?_).path
  · simp [baseOf, opened, setEntry, countFirings_descriptors]
  · obtain ⟨o, ho, rfl⟩ := List.mem_map.1 hx
    by_cases htrack : o.track = e.track
    · refine ⟨e, hmem, .inr ?_⟩
      rw [if_pos (show o.track = (openedEntry e s).track from htrack)]
      refine ⟨rfl, rfl, ?_, fun v hv => ?_, hair⟩
      · simp only [loadSet, harmed, openedEntry, if_true, if_neg (show EntryState.armed ≠ .opened by decide)]
        exact within_and_left _ _
      · simp only [openedEntry, BitVec.getLsbD_and, Bool.and_eq_true] at hv
        exact getLsbD_activeValves.1 hv.2
    · rw [if_neg (show ¬ o.track = (openedEntry e s).track from htrack)]
      exact ⟨o, ho, .inl (.refl o)⟩

theorem openCheck_path {e : Entry} {s : State} (hmem : e ∈ s.sched.entries) (harmed : e.state = .armed) :
    Path s (openCheck e s) := by
  unfold openCheck
  dsimp only
  split
  · exact (schedulerEnds_departs _ _ _ s).path
  split
  · exact (schedulerEnds_departs _ _ _ s).path
  split
  case isTrue hair => exact opened_path hmem harmed (by simpa using hair)
  case isFalse => exact (schedulerEnds_departs _ _ _ s).path

theorem execOpenCountReached_path {id : PieceId} {s t : State} (h : execOpenCountReached id s = .next t) : Path s t := by
  unfold execOpenCountReached at h
  split at h
  · cases h; exact .refl s
  rename_i he
  split at h
  · split at h <;> cases h
    · exact ((schedulerEnds_departs _ _ _ s).trans (syncBar_departs _)).path
    · exact (openCheck_path (mem_entries_of_entryOf he) ‹_›).trans (syncBar_departs _).path
    · exact .refl s
  · cases h; exact .refl s

theorem execCloseCountReached_path {id : PieceId} {s t : State} (h : execCloseCountReached id s = .next t) : Path s t := by
  unfold execCloseCountReached at h
  repeat' split at h
  all_goals cases h
  · exact .refl s
  · exact ((closeEntry_departs _ _ _ s).trans (syncBar_departs _)).path
  · exact .refl s

theorem execGuardExpiry_path {id : PieceId} {s t : State} (h : execGuardExpiry id s = .next t) : Path s t := by
  unfold execGuardExpiry at h
  repeat' split at h
  all_goals cases h
  · exact .refl s
  · exact ((clockTo_departs _ s).trans ((closeEntry_departs _ _ _ _).trans (syncBar_departs _))).path
  · exact .refl s

end Sys2Proof.Machine
end

section
namespace Sys2Proof.Machine

set_option Elab.async false

/-! #### The line bus controller and the acceptance unit -/

theorem observeRun_departs (run : Nat) (s : State) : Departs s (observeRun run s) := .of_same
theorem raiseCount_departs (cls : AccessClass) (s : State) : Departs s (raiseCount cls s) := by
  cases cls <;> exact .of_same

theorem latchAttempt_departs (x : Slot) (s : State) : Departs s (latchAttempt x s) := .of_same

/-- The frame is over, or received: then nothing is driven, and no guard is needed (R84). -/
theorem frameTo_path {f : FrameState} {s t : State} (hf : f ≠ .starting ∧ f ≠ .sending)
    (h : Departs { s with link.frame := f } t) : Path s t :=
  (Move.link s.link.state f (fun _ hd => (hd.elim hf.1 hf.2).elim) h).path

theorem frameOver_path (run : Nat) (s : State) : Path s (frameOver run s) :=
  frameTo_path (f := .idle) (by decide) .of_same

theorem execStartOfFrame_path {run : Nat} {s t : State} (h : execStartOfFrame run s = .next t) : Path s t := by
  unfold execStartOfFrame at h
  split at h
  · cases h; exact .refl s
  split at h
  · split at h <;> cases h
    · exact frameTo_path (f := .receiving) (by decide) .of_same
    · exact .refl s
  · rename_i hstarting
    split at h <;> cases h
    · exact .refl s
    · exact (Move.link s.link.state .sending (fun hs _ => hs (by simp [driving, hstarting])) .of_same).path
  all_goals cases h; exact .refl s

theorem execRequiredCountLowered_path {run : Nat} {s t : State} (h : execRequiredCountLowered run s = .next t) :
    Path s t := by
  unfold execRequiredCountLowered at h
  split at h <;> cases h
  · exact (observeRun_departs _ s).path
  · exact .refl s

theorem execSlotStart_path {run : Nat} {s t : State} (h : execSlotStart run s = .next t) : Path s t := by
  unfold execSlotStart at h
  split at h
  · rename_i hactive
    simp only [Bool.and_eq_true, decide_eq_true_eq] at hactive
    dsimp only at h
    split at h <;> cases h
    · exact (observeRun_departs _ s).path
    · exact (Move.link s.link.state .starting (fun _ _ => hactive.1.1) .of_same).path
  · cases h; exact .refl s

/-- A held slot ends, and a track whose record it settles is examined again. -/
theorem endAndExamine_path (x : Slot) (o : TxOutcome) (s : State) : Path s (examineIf (endSlot x o s)) :=
  (endSlot_departs x o s).path.trans (examineIf_path _)

theorem endAndExamine_spine (x : Slot) (o : TxOutcome) (s : State) : spine (examineIf (endSlot x o s)) = spine s :=
  (examineIf_spine _).trans (endSlot_spine x o s)

theorem returnSlot_path (x : Slot) (s : State) : Path s (returnSlot x s) := by
  unfold returnSlot
  split
  · exact endAndExamine_path _ _ s
  split
  · exact endAndExamine_path _ _ s
  · exact (modifySlot_departs _ _ s).path

theorem failSlot_path (x : Slot) (s : State) : Path s (failSlot x s) := by
  unfold failSlot
  dsimp only
  split
  · exact endAndExamine_path _ _ s
  split
  · exact endAndExamine_path _ _ s
  split
  · exact endAndExamine_path _ _ s
  · exact (modifySlot_departs _ _ s).path

theorem failSlot_spine (x : Slot) (s : State) : spine (failSlot x s) = spine s := by
  unfold failSlot
  dsimp only
  split
  · exact endAndExamine_spine _ _ s
  split
  · exact endAndExamine_spine _ _ s
  split
  · exact endAndExamine_spine _ _ s
  · rfl

theorem frame_of_spine {s t : State} (h : spine t = spine s) : t.link.frame = s.link.frame := by
  have hs := congrArg (fun a : State => a.link.frame) h
  exact hs

theorem linkSilent_path (cause : SilentCause) {s : State} (h : s.link.frame ≠ .starting ∧ s.link.frame ≠ .sending) :
    Path s (linkSilent cause s) := by
  unfold linkSilent
  refine Path.trans (Move.path (Move.link (.silent cause) s.link.frame (fun _ hd => (hd.elim h.1 h.2).elim) ?_))
    (Path.foldl (fun a x => endAndExamine_path x _ a) _ _)
  exact .of_same

theorem execArbitrationLost_path {s t : State} (h : execArbitrationLost s = .next t) : Path s t := by
  unfold execArbitrationLost at h
  repeat' split at h
  all_goals cases h
  · exact .refl s
  · refine Path.trans (frameTo_path (f := .receiving) (by decide) ?_) ((returnSlot_path _ _).trans (syncBar_departs _).path)
    exact .of_same
  · exact .refl s

theorem execBitError_path {s t : State} (h : execBitError s = .next t) : Path s t := by
  unfold execBitError at h
  split at h
  · cases h; exact .refl s
  rename_i x _
  split at h
  · dsimp only at h
    cases h
    have hframe : Path s { s with
        link.frame := .receivingAbandoned
        link.txFrame := []
        link.consecutiveFailures := s.link.consecutiveFailures + 1 } :=
      frameTo_path (f := .receivingAbandoned) (by decide) .of_same
    refine (hframe.trans (failSlot_path x _)).trans (Path.trans ?_ (syncBar_departs _).path)
    split
    · refine linkSilent_path _ ?_
      rw [frame_of_spine (failSlot_spine x _)]
      exact ⟨nofun, nofun⟩
    · exact .refl _
  · cases h; exact .refl s

theorem joinGeneral_departs (e : QueueEntry) (s : State) : Departs s (joinGeneral e s) := by
  unfold joinGeneral modeToQuick
  dsimp only
  repeat' split
  all_goals exact .of_same

theorem joinUrgent_path (e : QueueEntry) (s : State) : Path s (joinUrgent e s) := by
  unfold joinUrgent
  split
  · exact Departs.path .of_same
  dsimp only
  split
  · refine Path.trans (Departs.path ?_) (reportOwnDrop_path _ _ _ _)
    exact .of_same
  · exact Departs.path .of_same

theorem queueNotice_path (e : QueueEntry) (s : State) : Path s (queueNotice e s) := by
  unfold queueNotice
  split
  · exact joinUrgent_path _ s
  · exact (joinGeneral_departs _ s).path
  · exact .refl s

theorem execSendSuccess_path {s t : State} (h : execSendSuccess s = .next t) : Path s t := by
  unfold execSendSuccess at h
  split at h
  · cases h; exact .refl s
  split at h
  · dsimp only at h
    cases h
    refine Path.trans (Path.trans ?_ (endAndExamine_path _ _ _)) ((queueNotice_path _ _).trans (syncBar_departs _).path)
    refine Path.trans (Departs.path (t := { s with link.consecutiveFailures := 0 }) .of_same) ?_
    exact (frameOver_path _ _).trans (raiseCount_departs _ _).path
  · cases h; exact .refl s

theorem countReceiveError_departs (s : State) : Departs s (countReceiveError s) := by
  unfold countReceiveError; split <;> exact .of_same

theorem judgeNotice_path (n : Node) (w : Wire) (s : State) : Path s (judgeNotice n w s) := by
  unfold judgeNotice
  dsimp only
  split
  · exact queueNotice_path _ s
  · exact Departs.path .of_same
  · exact (raiseFlag_departs _ s).path.trans (queueNotice_path _ _)

theorem takeNotice_path (hd : Header) (body : List Byte) (s : State) : Path s (takeNotice hd body s) := by
  unfold takeNotice
  split
  · exact Departs.path .of_same
  · exact (takeHeartbeat_departs _ _ s).path
  · exact judgeNotice_path _ _ s

theorem countDuplicate_path {s : State} (h : s.link.frame ≠ .starting ∧ s.link.frame ≠ .sending) :
    Path s (countDuplicate s) := by
  unfold countDuplicate
  refine Path.trans (Departs.path (t := { s with link.duplicates := bump s.link.duplicates }) .of_same) ?_
  dsimp only
  split
  · exact linkSilent_path _ h
  · exact .refl _

theorem takeFrame_path (bytes : List Byte) {s : State} (h : s.link.frame ≠ .starting ∧ s.link.frame ≠ .sending) :
    Path s (takeFrame bytes s) := by
  unfold takeFrame
  dsimp only
  split
  · exact (countReceiveError_departs s).path
  split
  · exact Departs.path .of_same
  · refine Path.trans ?_ (takeNotice_path _ _ _)
    split
    · exact countDuplicate_path h
    · exact .refl s

theorem not_driving_of_receiving {s : State} (h : receivingFrame s = true) :
    s.link.frame ≠ .starting ∧ s.link.frame ≠ .sending := by
  simp only [receivingFrame, Bool.or_eq_true, decide_eq_true_eq] at h
  obtain h | h := h <;> rw [h] <;> decide

theorem execFrameReceived_path {bytes : List Byte} {s t : State} (h : execFrameReceived bytes s = .next t) : Path s t := by
  unfold execFrameReceived at h
  split at h <;> cases h
  · rename_i hr
    simp only [Bool.and_eq_true] at hr
    exact (takeFrame_path _ (not_driving_of_receiving hr.2)).trans ((frameOver_path _ _).trans (syncBar_departs _).path)
  · exact .refl s

theorem execFrameDiscarded_path {cause : DiscardCause} {run : Nat} {s t : State}
    (h : execFrameDiscarded cause run s = .next t) : Path s t := by
  unfold execFrameDiscarded at h
  split at h <;> cases h
  · exact (countReceiveError_departs s).path.trans (frameOver_path _ _)
  · exact .refl s

theorem execListeningTimerEnd_path {s t : State} (h : execListeningTimerEnd s = .next t) : Path s t := by
  unfold execListeningTimerEnd at h
  split at h <;> cases h
  · rename_i t0 _ _
    refine Path.trans (Move.path (Move.link (t := heartbeatFrom t0 { clockTo t0 s with
      link.state := .active, link.listeningTimer := none }) .active s.link.frame (fun _ _ => rfl) ?_))
      (addHeartbeat_departs _).path
    exact .of_same
  · exact .refl s

theorem execSlotDeadlineStale_path {p : Fin 8} {s t : State} (h : execSlotDeadlineStale p s = .next t) : Path s t := by
  unfold execSlotDeadlineStale at h
  repeat' split at h
  all_goals cases h
  · exact .refl s
  · exact (endAndExamine_path _ _ s).trans (syncBar_departs _).path
  · exact (modifySlot_departs _ _ s).path
  · exact .refl s

/-! #### START, HALT and the end of HALTING -/

theorem emptyLists_departs (s : State) : Departs s (emptyLists s) :=
  ⟨rfl, List.nil_sublist _, fun _ h => nomatch h⟩

theorem goOffline_path (s : State) : Path s (goOffline s) := by
  unfold goOffline
  refine (Departs.foldl (fun a x => endSlot_departs x _ a) _ s).path.trans (Move.path (Move.link .offline .idle ?_ .of_same))
  exact fun _ h => h.elim nofun nofun

theorem enterHalted_path (s : State) : Path s (enterHalted s) := by
  refine (goOffline_path s).trans ((emptyLists_departs _).path.trans ?_)
  refine Path.trans (Move.path (Move.supply (t := { emptyLists (goOffline s) with
      air.supply := .standby
      air.chargeTimer := none
      air.standbyTimer := none
      air.standbyDue := none }) .standby .of_same (.inr (.inr fun _ h => nomatch h)))) ?_
  exact (Move.station .halted (.inr rfl) .of_same).path

theorem execHaltingEnd_path {s t : State} (h : execHaltingEnd s = .next t) : Path s t := by
  unfold execHaltingEnd at h
  split at h <;> cases h
  · exact (enterHalted_path s).trans (syncBar_departs _).path
  · exact .refl s

theorem startBelt_count (fromReady : Bool) (t pitch : Nat) (b : Belt) : (startBelt fromReady t pitch b).count = b.count := by
  cases fromReady <;> rfl

theorem startBelt_figures (fromReady : Bool) (t pitch : Nat) (b : Belt) (h : ∀ i : Fin 4, b.windowList[i] ≤ 4095)
    (hs : b.speed ≤ 4095) :
    (∀ i : Fin 4, (startBelt fromReady t pitch b).windowList[i] ≤ 4095) ∧ (startBelt fromReady t pitch b).speed ≤ 4095 := by
  cases fromReady
  · exact ⟨h, hs⟩
  · exact ⟨fun i => by simp [startBelt, firstWindow], by simp [startBelt, firstWindow]⟩

theorem listen_path {s : State} (h : DrivesWhenActive s → driving s = false) : Path s (listen s) := by
  refine (Move.link .listening s.link.frame (fun hs hd => ?_) .of_same).path
  have hnot := h hs
  simp only [driving, Bool.or_eq_false_iff, decide_eq_false_iff_not] at hnot
  exact (hd.elim hnot.1 hnot.2).elim

theorem startStation_path (s : State) : Path s (startStation s) := by
  have hlists : Departs s (modeFromProfile (prof s) (emptyTable (emptyLists s))) :=
    (emptyLists_departs s).trans (Departs.trans (t := emptyTable (emptyLists s)) .of_same .of_same)
  refine hlists.path.trans ?_
  let b := startBelt (s.port.station = .ready) s.clock (prof s).scanPitch s.belt
  refine Path.trans (Move.path (Move.window (t := { modeFromProfile (prof s) (emptyTable (emptyLists s)) with
    belt := b }) b.windowList b.speed (fun hw hs => startBelt_figures _ _ _ _ hw hs) ?_)) ?_
  · refine .of_same ?_
    simp only [baseOf, b, startBelt_count]
    rfl
  refine Path.trans (frameTo_path (f := .idle) (t := { modeFromProfile (prof s) (emptyTable (emptyLists s)) with
    belt := b
    link.frame := .idle }) (by decide) .of_same) ?_
  exact Path.trans (Move.path (Move.station .running (.inr rfl) .of_same)) (listen_path fun _ => rfl)

theorem haltEntry_departs (e : Entry) (s : State) : Departs s (haltEntry e s) := by
  unfold haltEntry
  split
  · exact closeEntry_departs _ _ _ s
  all_goals exact schedulerEnds_departs _ _ _ s

theorem haltTrack_departs (s : State) (t : Track) : Departs s (haltTrack s t) := by
  unfold haltTrack
  split
  · exact .refl s
  · exact haltEntry_departs _ s

theorem haltStation_path (s : State) : Path s (haltStation s) :=
  Path.trans (Move.path (Move.station .halting (.inl rfl) .of_same)) (Departs.foldl haltTrack_departs _ _).path

/-! #### The station port -/

theorem respond_departs (frame : List Byte) (s : State) : Departs s (respond frame s) := .of_same

theorem carryOut_path {effect : State → State} {data : State → List Byte} {s : State} (h : Path s (effect s)) :
    Path s (carryOut effect data s) :=
  h.trans (respond_departs _ _).path

theorem judge_path {accepted lengthOk : Bool} {run : State → State} {s : State} (h : accepted = true → Path s (run s)) :
    Path s (judge accepted lengthOk run s) := by
  unfold judge
  split
  · exact (respond_departs _ s).path
  split
  · exact (respond_departs _ s).path
  · rename_i ha _
    exact h (by simpa using ha)

theorem transaction_path (s : State) : Path s (transaction s) := by
  unfold transaction
  split
  · exact (Move.reset rfl).path
  · exact .refl s

theorem taken_path {run : State → State} (h : ∀ a, Path a (run a)) (s : State) : Path s (taken run s) := by
  unfold taken
  split
  · exact .refl s
  · exact (transaction_path s).trans (h _)

theorem not_working_of_acceptsLoad {s : State} (h : acceptsLoad s = true) : working s = false := by
  unfold acceptsLoad at h
  unfold working
  split at h <;> simp_all

theorem installProfile_path {a : List Byte} {s : State} (hidle : working s = false) (h : profileOffence a = none) :
    Path s (installProfile (profileOf a) s) := by
  refine Path.trans (Move.path (Move.profile (t := { s with
    port.profile := some (profileOf a), port.station := .ready, belt.windowTimer := none }) a hidle h .of_same)) ?_
  exact Departs.path .of_same

theorem loadChecked_path {a : List Byte} {s : State} (hidle : working s = false) : Path s (loadChecked a s) := by
  unfold loadChecked
  split
  · exact (respond_departs _ s).path
  · exact carryOut_path (installProfile_path hidle ‹_›)

theorem applyEdit_path (pairs : List (Nat × Nat)) (s : State) : Path s (applyEdit pairs s).1 := by
  unfold applyEdit
  split
  · exact Departs.path .of_same
  · rename_i hok
    refine Path.trans (Departs.path (t := { s with valves.edits := bump s.valves.edits }) .of_same) (Move.path ?_)
    exact Move.map (editedMap pairs s.valves.valve) (fun _ => mapLaw_of_editFault_none hok) (.refl _)

theorem editChecked_path (arg : List Byte) (s : State) : Path s (editChecked arg s) := by
  have h := applyEdit_path (editPairs arg) s
  unfold editChecked
  split
  · exact (respond_departs _ s).path
  · split <;> rename_i heq <;> rw [heq] at h
    · exact h.trans (respond_departs _ _).path
    · exact h.trans ((syncBar_departs _).trans (respond_departs _ _)).path

theorem takeMask_path (mask : ValveSet) (s : State) : Path s (takeMask mask s) := by
  unfold takeMask
  dsimp only
  have h (a b : Tally) : Path s { installMap (autoCovered (prof s).autoCover (outOfService mask s.valves.valve)
      (retiredMap mask s.valves.valve)).1 s with valves.valveFaults := a, valves.autoCovers := b } :=
    (Move.map _ (fun hs => mapLaw_iff.2 (lawfulMap_autoCovered (mapLaw_iff.1 hs))) .of_same).path
  split
  · exact h _ _
  · exact (h _ _).trans (raiseFlag_departs _ _).path

theorem nextTransfer_departs (s : State) : Departs s (nextTransfer s) := by
  unfold nextTransfer; split <;> exact .of_same

theorem execTransferComplete_path {bytes : List Byte} {s t : State} (h : execTransferComplete bytes s = .next t) :
    Path s t := by
  unfold execTransferComplete at h
  split at h <;> cases h
  · exact .refl s
  · exact (takeMask_path _ s).trans ((syncBar_departs _).trans (nextTransfer_departs _)).path

theorem confirmedMap_descriptors (vs : ValveSet) (res : ConfirmResult) (n : Nat) (m : Vector Valve 64) :
    (confirmedMap vs res n m).map (·.descriptor) = m.map (·.descriptor) := by
  apply Vector.ext
  intro i hi
  simp only [confirmedMap, Vector.getElem_map, Vector.getElem_ofFn]
  cases res <;> split <;> rfl

theorem takeConfirm_departs (id : PieceId) (res : ConfirmResult) (s : State) : Departs s (takeConfirm id res s) := by
  unfold takeConfirm
  split
  · exact .of_same
  · have h (rest : List (PieceId × ValveSet)) (vs : ValveSet) (n : Nat) : Departs s { s with
        valves.recent := rest, valves.valve := confirmedMap vs res n s.valves.valve } :=
      .of_same (by simp only [baseOf, confirmedMap_descriptors])
    dsimp only
    split
    · exact (h _ _ _).trans (raiseFlag_departs _ _)
    · exact h _ _ _

theorem execConfirmEntryTaken_path {s t : State} (h : execConfirmEntryTaken s = .next t) : Path s t := by
  unfold execConfirmEntryTaken at h
  split at h
  · cases h; exact .refl s
  rename_i rest _
  have hrest : Departs s { s with accept.general := rest } := .of_same
  dsimp only at h
  split at h <;> cases h
  · exact (hrest.trans (takeConfirm_departs _ _ _)).path
  all_goals exact hrest.path

theorem execStationReset_path {c : ResetCause} {s t : State} (h : execStationReset c s = .next t) : Path s t := by
  have hreset : Path s (stationReset s) := (Move.reset rfl).path
  unfold execStationReset at h
  split at h <;> split at h <;> cases h
  · exact .refl s
  · exact hreset.trans (Departs.path .of_same)
  · exact Departs.path .of_same
  · exact .refl s
  · exact hreset
  · exact .refl s

end Sys2Proof.Machine
end

/-! ### Placements: the one change that no move makes -/

section
namespace Sys2Proof.Machine

set_option Elab.async false

/-! #### IDs that no track answers to -/

theorem hasId_iff {id : PieceId} {t : Track} : hasId id t = true ↔ id ∈ idsOf t := by
  simp only [hasId, idsOf, Bool.or_eq_true, decide_eq_true_eq, List.mem_cons, Option.mem_toList]
  rw [eq_comm (a := id)]

theorem trackOf_eq_none_iff {id : PieceId} {s : State} : trackOf id s = none ↔ ∀ t ∈ s.engine.tracks, id ∉ idsOf t := by
  simp [trackOf, List.find?_eq_none, hasId_iff]

/-- The IDs in what the laws read of a track. -/
def sigIds (x : Nat × PieceId × Option PieceId × Count) : List PieceId := x.2.1 :: x.2.2.1.toList

theorem idsOf_eq_sigIds (t : Track) : idsOf t = sigIds (trackSig t) := rfl

theorem flatMap_idsOf (ts : List Track) : ts.flatMap idsOf = (ts.map trackSig).flatMap sigIds := by
  rw [List.flatMap_map]
  rfl

theorem TracksKept.ids {ts us : List Track} (h : TracksKept ts us) : (us.flatMap idsOf).Sublist (ts.flatMap idsOf) := by
  rw [flatMap_idsOf, flatMap_idsOf, List.flatMap_def, List.flatMap_def]
  exact List.Sublist.flatten (List.Sublist.map _ h)

theorem TracksKept.length_le {ts us : List Track} (h : TracksKept ts us) : us.length ≤ ts.length := by
  simpa using List.Sublist.length_le h

theorem TracksKept.keys {ts us : List Track} (h : TracksKept ts us) : (us.map (·.key)).Sublist (ts.map (·.key)) := by
  have hk := List.Sublist.map (f := Prod.fst) h
  rwa [List.map_map, List.map_map] at hk

theorem TracksKept.ds {ts us : List Track} (h : TracksKept ts us) : (us.map (·.d)).Sublist (ts.map (·.d)) := by
  have hk := List.Sublist.map (f := fun x => x.2.2.2) h
  rwa [List.map_map, List.map_map] at hk

theorem TracksKept.trackOf_none {s t : State} (h : TracksKept s.engine.tracks t.engine.tracks) {id : PieceId}
    (hs : trackOf id s = none) : trackOf id t = none := by
  rw [trackOf_eq_none_iff] at hs ⊢
  intro u hu hid
  obtain ⟨v, hv, hidv⟩ := List.mem_flatMap.1 (h.ids.subset (List.mem_flatMap.2 ⟨u, hu, hid⟩))
  exact hs v hv hidv

/-- The first free sequence number is free, or every try was taken (R30). -/
theorem trackOf_freeSequence {node : Node} {s : State} {fuel : Nat} {q : Fin 4096}
    (h : ∃ k < fuel, trackOf ⟨node, q + Fin.ofNat 4096 k⟩ s = none) :
    trackOf ⟨node, freeSequence node s fuel q⟩ s = none := by
  induction fuel generalizing q with
  | zero => exact absurd h (by simp)
  | succ fuel ih =>
    unfold freeSequence
    split
    · rename_i hq; exact Option.isNone_iff_eq_none.1 hq
    · rename_i hq
      refine ih ?_
      obtain ⟨k, hk, hfree⟩ := h
      match k with
      | 0 =>
        rw [show q + Fin.ofNat 4096 0 = q from add_zero q] at hfree
        exact absurd (Option.isNone_iff_eq_none.2 hfree) hq
      | k + 1 =>
        refine ⟨k, by omega, ?_⟩
        rw [show q + 1 + Fin.ofNat 4096 k = q + Fin.ofNat 4096 (k + 1) from ?_]
        · exact hfree
        · apply Fin.ext
          simp only [Fin.val_add, Fin.val_ofNat]
          omega

/-- 127 tracks hold at most 254 IDs, so one of 257 tries is free (R30). -/
theorem exists_free_sequence {node : Node} {s : State} (hroom : s.engine.tracks.length < 128) (q : Fin 4096) :
    ∃ k < 257, trackOf ⟨node, q + Fin.ofNat 4096 k⟩ s = none := by
  by_contra hall
  push Not at hall
  let tries : List PieceId := (List.range 257).map fun k => ⟨node, q + Fin.ofNat 4096 k⟩
  have hnodup : tries.Nodup := by
    refine List.Nodup.map_on (fun i hi j hj hij => ?_) List.nodup_range
    simp only [List.mem_range] at hi hj
    have hval := congrArg Fin.val (PieceId.mk.inj hij).2
    simp only [Fin.val_add, Fin.val_ofNat] at hval
    omega
  have hsub : tries ⊆ s.engine.tracks.flatMap idsOf := by
    intro id hid
    obtain ⟨k, hk, rfl⟩ := List.mem_map.1 hid
    have htaken := hall k (List.mem_range.1 hk)
    rw [Ne, trackOf_eq_none_iff] at htaken
    push Not at htaken
    exact List.mem_flatMap.2 htaken
  have hcount : tries.length ≤ (s.engine.tracks.flatMap idsOf).length := (hnodup.subperm hsub).length_le
  have hids : (s.engine.tracks.flatMap idsOf).length ≤ s.engine.tracks.length * 2 := by
    rw [List.length_flatMap]
    refine (List.sum_le_card_nsmul _ 2 fun n hn => ?_).trans (by simp)
    obtain ⟨t, -, rfl⟩ := List.mem_map.1 hn
    simp only [idsOf, List.length_cons]
    cases t.aliasId <;> simp
  simp only [tries, List.length_map, List.length_range] at hcount
  omega

/-! #### A track takes its place in the table -/

/-- A new or moved track takes its place in the table (R29, R32, R48). -/
inductive Places (s t : State) : Prop where
  /-- A track under an ID and a key of its own, room made for it where the table was full. -/
  | fresh (passOver : Option Nat) (a b : State) (x : Track) (room : roomForTrack passOver s = some a) (kept : Departs a b)
      (key : x.key = b.engine.nextKey) (alone : x.aliasId = none)
      (free : b.engine.tracks.length < 128 → trackOf x.primary b = none)
      (h : Departs { b with engine.tracks := placeTrack x b.engine.tracks, engine.nextKey := b.engine.nextKey + 1 } t)
  /-- A track with a new position. -/
  | moved (o : Track) (x : Extent) (datum : Option (BitVec 24)) (mem : o ∈ s.engine.tracks)
      (h : Departs { s with
        engine.tracks := placeTrack (movedTrack x datum o) (s.engine.tracks.filter fun u => u.key ≠ o.key) } t)

/-- What a command does: moves, and at most one placement. -/
def Course (s t : State) : Prop := Path s t ∨ ∃ a b, Path s a ∧ Places a b ∧ Path b t

theorem Path.course {s t : State} (h : Path s t) : Course s t := .inl h

theorem Path.trans_course {s t u : State} (h : Path s t) (k : Course t u) : Course s u := by
  obtain k | ⟨a, b, hta, hab, hbu⟩ := k
  · exact .inl (h.trans k)
  · exact .inr ⟨a, b, h.trans hta, hab, hbu⟩

theorem Course.trans_path {s t u : State} (h : Course s t) (k : Path t u) : Course s u := by
  obtain h | ⟨a, b, hsa, hab, hbt⟩ := h
  · exact .inl (h.trans k)
  · exact .inr ⟨a, b, hsa, hab, hbt.trans k⟩

/-! #### The tracking engine -/

theorem takeCluster_departs (k : Nat) (c : Bool) (s : State) : Departs s (takeCluster k c s) := by
  unfold takeCluster
  split
  · exact modifyTrack_departs _ _ s
  · exact .refl s

theorem checkLateEvidence_departs (k : Nat) (s : State) : Departs s (checkLateEvidence k s) := by
  unfold checkLateEvidence
  split
  · exact .refl s
  split
  · exact Departs.trans .of_same (modifyTrack_departs k (fun u => { u with lateEvidence := true })
      { s with engine.lateEvidence := bump s.engine.lateEvidence })
  · exact .refl s

theorem offerContribution_departs (k : Nat) (who : Node × SourceKind) (n : Nat) (ps : List ClassScore) (s : State) :
    Departs s (offerContribution k who n ps s).1 := by
  unfold offerContribution
  split
  · exact .refl s
  split
  · exact .refl s
  split
  · exact modifyTrack_departs k (fun u => { u with crowded := true }) s
  · exact (modifyTrack_departs k (acceptContribution (prof s).weights[who.2] n who ps) s).trans
      (checkLateEvidence_departs _ _)

theorem markUnannounced_departs (id : PieceId) (s : State) : Departs s (markUnannounced id s) := by
  unfold markUnannounced
  split
  · exact .refl s
  · exact modifyTrack_departs _ _ s

theorem announce_departs (id : PieceId) (m : Mode) (e : Detection) (s : State) : Departs s (announce id m e s) :=
  addNotice_departs _ _ (markUnannounced_departs id) s

theorem finishEntry_departs (k : Nat) (s : State) : Departs s (finishEntry k s) := by
  unfold finishEntry
  split
  · exact .refl s
  split
  · exact retireOrHold_departs _ s
  · exact .refl s

theorem evict_departs (t : Track) (s : State) : Departs s (evict t s) :=
  ((removeTrack_departs t.key s).trans (countDeparture_departs t _)).trans .of_same

theorem roomForTrack_departs {p : Option Nat} {s t : State} (h : roomForTrack p s = some t) : Departs s t := by
  unfold roomForTrack at h
  split at h
  · cases h; exact .refl s
  · obtain ⟨u, -, rfl⟩ := Option.map_eq_some_iff.1 h
    exact evict_departs u s

/-- A table of 128 tracks at most has room after an eviction (R54). -/
theorem length_of_roomForTrack {p : Option Nat} {s t : State} (h : roomForTrack p s = some t)
    (hs : s.engine.tracks.length ≤ 128) : t.engine.tracks.length < 128 := by
  unfold roomForTrack at h
  split at h
  · cases h; assumption
  · obtain ⟨u, hu, rfl⟩ := Option.map_eq_some_iff.1 h
    have hmem := List.mem_of_find?_eq_some hu
    change (s.engine.tracks.filter fun v => v.key ≠ u.key).length < 128
    refine lt_of_lt_of_le (List.length_filter_lt_length_iff_exists.2 ⟨u, hmem, by simp⟩) hs

theorem refine_course (k : Nat) (x : Extent) (m : Option (BitVec 24)) (s : State) : Course s (refine k x m s) := by
  unfold refine
  split
  · exact .inl (.refl s)
  rename_i o ho
  have hkey : o.key = k := by simpa using List.find?_some ho
  split
  · refine .inr ⟨s, _, .refl s, .moved o x m (List.mem_of_find?_eq_some ho) (.refl _), ?_⟩
    rw [hkey]
    dsimp only
    split
    · exact meetPoint_path _ _
    · exact .refl _
  · exact .inl (.refl s)

theorem applyDetection_course (m : Mode) (e : Detection) (t : Track) (s : State) : Course s (applyDetection m e t s) := by
  unfold applyDetection
  dsimp only
  have hoffer := (takeCluster_departs t.key e.cluster s).trans
    (offerContribution_departs t.key ((prof s).node, (prof s).localKind) (overlapFactor m e t) e.pairs _)
  refine hoffer.path.trans_course
    ((refine_course t.key (detectionExtent e) (some (prof s).datum) _).trans_path ?_)
  refine (announce_departs t.primary m e _).path.trans (Path.trans ?_ (finishEntry_departs _ _).path)
  split
  · exact handToEvaluation_path _ _ _
  · exact .refl _

theorem applyPiece_course (m : Mode) (x : Extent) (n : Node) (i : PieceInfo) (k : Nat) (s : State) :
    Course s (applyPiece m x n i k s) := by
  unfold applyPiece
  dsimp only
  have hoffer := (takeCluster_departs k i.cluster s).trans (offerContribution_departs k (n, i.kind) 16 i.pairs _)
  refine hoffer.path.trans_course ((refine_course k x (senderDatum n (offerContribution k (n, i.kind) 16 i.pairs
    (takeCluster k i.cluster s)).1) _).trans_path (Path.trans ?_ (finishEntry_departs _ _).path))
  split
  · exact handToEvaluation_path _ _ _
  · exact .refl _

theorem dropAtFullTable_departs (s : State) : Departs s (dropAtFullTable s) := .of_same

theorem createTrack_places {p : Option Nat} {s a b : State} {x : Track} {who : Node × SourceKind} {ps : List ClassScore}
    (room : roomForTrack p s = some a) (kept : Departs a b) (key : x.key = b.engine.nextKey) (alone : x.aliasId = none)
    (free : b.engine.tracks.length < 128 → trackOf x.primary b = none) : Places s (createTrack x who ps b) :=
  .fresh p a b (acceptContribution (prof b).weights[who.2] 16 who ps x) room kept key alone free (.refl _)

theorem createFromDetection_course (m : Mode) (e : Detection) (s : State) : Course s (createFromDetection m e s) := by
  unfold createFromDetection
  split
  · exact (dropAtFullTable_departs s).path.course
  rename_i a ha
  dsimp only
  set q := freeSequence (prof a).node a 257 a.engine.ownSequence
  have hplace := createTrack_places (b := { a with engine.ownSequence := q + 1 })
    (x := newTrack a.engine.nextKey ⟨(prof a).node, q⟩ (detectionExtent e) (some (prof a).datum) e.cluster false)
    (who := ((prof a).node, (prof a).localKind)) (ps := e.pairs) ha .of_same rfl rfl
    fun hroom => trackOf_freeSequence (exists_free_sequence hroom _)
  exact .inr ⟨s, _, .refl s, hplace, (announce_departs _ m e _).path.trans
    ((handNewTrack_path m _ _).trans (finishEntry_departs _ _).path)⟩

/-- The candidate that a new track is split from is marked (R45). -/
def markSplit (p : Option Nat) (s : State) : State :=
  match p with
  | none => s
  | some k => modifyTrack k (fun u => { u with split := true }) s

theorem markSplit_departs (p : Option Nat) (s : State) : Departs s (markSplit p s) := by
  cases p with
  | none => exact .refl s
  | some k => exact modifyTrack_departs k (fun u => { u with split := true }) s

theorem markSplit_nextKey (p : Option Nat) (s : State) : (markSplit p s).engine.nextKey = s.engine.nextKey := by
  cases p <;> rfl

theorem createFromPiece_course (m : Mode) (x : Extent) (n : Node) (i : PieceInfo) (p : Option Nat) (s : State)
    (hfree : trackOf i.id s = none) : Course s (createFromPiece m x n i p s) := by
  unfold createFromPiece
  split
  · exact (dropAtFullTable_departs s).path.course
  rename_i a ha
  change Course s (finishEntry _ (handNewTrack m _ (createTrack (newTrack a.engine.nextKey i.id x (senderDatum n a) i.cluster
    p.isSome) (n, i.kind) i.pairs (markSplit p a))))
  have hmark := markSplit_departs p a
  have hplace := createTrack_places (x := newTrack a.engine.nextKey i.id x (senderDatum n a) i.cluster p.isSome)
    (who := (n, i.kind)) (ps := i.pairs) ha hmark (markSplit_nextKey p a).symm rfl
    fun _ => ((roomForTrack_departs ha).trans hmark).tracks.trackOf_none hfree
  exact .inr ⟨s, _, .refl s, hplace, (handNewTrack_path m _ _).trans (finishEntry_departs _ _).path⟩

theorem mem_of_bestCandidate {x : Extent} {ts : List Track} {t : Track} (h : bestCandidate x ts = some t) : t ∈ ts := by
  have hfold (l : List Track) (b : Track) : l.foldl (betterOf x) b = b ∨ l.foldl (betterOf x) b ∈ l := by
    induction l generalizing b with
    | nil => exact .inl rfl
    | cons y ys ih =>
      have hstep : betterOf x b y = b ∨ betterOf x b y = y := by
        unfold betterOf
        split
        · exact .inr rfl
        split
        · exact .inr rfl
        · exact .inl rfl
      rw [List.foldl_cons]
      obtain hfix | hmem := ih (betterOf x b y)
      · rw [hfix]
        obtain h | h := hstep
        · exact .inl h
        · exact .inr (by rw [h]; exact List.mem_cons_self)
      · exact .inr (List.mem_cons_of_mem _ hmem)
  cases ts with
  | nil => cases h
  | cons y ys =>
    cases h
    obtain h | h := hfold ys y
    · rw [h]; exact List.mem_cons_self
    · exact List.mem_cons_of_mem _ h

theorem associatePiece_course (x : Extent) (n : Node) (i : PieceInfo) (s : State) : Course s (associatePiece x n i s) := by
  unfold associatePiece
  dsimp only
  split
  · exact applyPiece_course _ _ _ _ _ s
  rename_i hnone
  split
  · exact createFromPiece_course _ _ _ _ _ s hnone
  rename_i t ht
  split
  · rename_i halone
    have hmem : t ∈ s.engine.tracks := List.mem_of_mem_filter (mem_of_bestCandidate ht)
    exact (Move.path (Move.merge i.id t.key hnone ⟨t, hmem, rfl, by simpa using halone⟩ rfl)).trans_course
      (applyPiece_course _ _ _ _ _ _)
  · exact createFromPiece_course _ _ _ _ _ s hnone

theorem execDetectionEntryTaken_course {s t : State} (h : execDetectionEntryTaken s = .next t) : Course s t := by
  unfold execDetectionEntryTaken at h
  split at h <;> cases h
  · exact .inl (.refl s)
  · rename_i rest _
    refine Path.trans_course (t := { s with intake.queue := rest, engine.turn := .general }) (Departs.path .of_same) ?_
    refine Course.trans_path ?_ (syncBar_departs _).path
    unfold takeDetection
    split
    · exact createFromDetection_course _ _ _
    · exact applyDetection_course _ _ _ _

theorem execPieceEntryTaken_course {s t : State} (h : execPieceEntryTaken s = .next t) : Course s t := by
  unfold execPieceEntryTaken at h
  split at h
  · cases h; exact .inl (.refl s)
  rename_i e rest _
  have hrest : Path s { s with accept.general := rest, engine.turn := .intake } := Departs.path .of_same
  dsimp only at h
  split at h
  · cases h; exact hrest.course
  split at h <;> cases h
  · refine hrest.trans_course (Course.trans_path ?_ (syncBar_departs _).path)
    unfold takePiece
    dsimp only
    split
    · exact (Departs.path .of_same).course
    · exact associatePiece_course _ _ _ _
  all_goals exact hrest.course

theorem execDecisionPointReached_path {id : PieceId} {s t : State} (h : execDecisionPointReached id s = .next t) :
    Path s t := by
  unfold execDecisionPointReached at h
  repeat' split at h
  all_goals cases h
  · exact .refl s
  · exact (meetPoint_path _ s).trans (syncBar_departs _).path
  · exact .refl s

theorem execRetirementCountReached_path {id : PieceId} {s t : State} (h : execRetirementCountReached id s = .next t) :
    Path s t := by
  unfold execRetirementCountReached at h
  repeat' split at h
  all_goals cases h
  · exact .refl s
  · exact (retireOrHold_departs _ s).path
  · exact .refl s

theorem execEncoderEdge_path {edge : EncoderEdge} {s t : State} (h : execEncoderEdge edge s = .next t) :
    Path (rolled (.encoderEdge edge) s) t := by
  unfold execEncoderEdge at h
  cases edge <;> dsimp only at h <;> cases h
  · exact .refl _
  · dsimp only [rolled]
    split
    · exact ((motionTo_departs _ _).trans (syncBar_departs _)).path
    · exact .refl _
  · exact .refl s

theorem execStrobeWordEnd_path {s t : State} (h : execStrobeWordEnd s = .next t) : Path s t := by
  unfold execStrobeWordEnd at h
  split at h <;> cases h
  · exact .refl s
  · exact Departs.path (Departs.trans .of_same (strobeIfDue_departs { s with belt.strobeWord := none }))

theorem removeAnswered_path (arg : List Byte) (s : State) : Path s (removeAnswered arg s) := by
  have hremoved : Departs s (removeOldest (removable arg s) s) := .of_same
  unfold removeAnswered
  exact carryOut_path hremoved.path

/-! #### Every command -/

/-- Every command but power-on reset takes its course from the state after its encoder edge. -/
theorem exec_course {c : Instr} {s t : State} (h : exec c s = .next t) (hc : c ≠ .powerOnReset) : Course (rolled c s) t := by
  cases c with
  | encoderEdge edge => exact (execEncoderEdge_path h).course
  | speedWindowEnd => exact (execSpeedWindowEnd_path h).course
  | scanStrobe => cases h; exact (strobeIfDue_departs s).path.course
  | strobeWordEnd => exact (execStrobeWordEnd_path h).course
  | recordComplete bytes ending => exact (execRecordComplete_path h).course
  | detectionEntryTaken => exact execDetectionEntryTaken_course h
  | pieceEntryTaken => exact execPieceEntryTaken_course h
  | decisionPointReached id => exact (execDecisionPointReached_path h).course
  | retirementCountReached id => exact (execRetirementCountReached_path h).course
  | startOfFrame run => exact (execStartOfFrame_path h).course
  | requiredCountLowered run => exact (execRequiredCountLowered_path h).course
  | slotStart run => exact (execSlotStart_path h).course
  | arbitrationLost => exact (execArbitrationLost_path h).course
  | bitError => exact (execBitError_path h).course
  | sendSuccess => exact (execSendSuccess_path h).course
  | frameReceived bytes => exact (execFrameReceived_path h).course
  | frameDiscarded cause run => exact (execFrameDiscarded_path (cause := cause) h).course
  | listeningTimerEnd => exact (execListeningTimerEnd_path h).course
  | heartbeatTimerExpiry => exact (execHeartbeatTimerExpiry_path h).course
  | supervisionDeadline node => exact (execSupervisionDeadline_path h).course
  | slotDeadlineStale place => exact (execSlotDeadlineStale_path h).course
  | claimEntryTaken => exact (execClaimEntryTaken_path h).course
  | releaseEntryTaken => exact (execReleaseEntryTaken_path h).course
  | firedEntryTaken => exact (execFiredEntryTaken_path h).course
  | openCountReached id => exact (execOpenCountReached_path h).course
  | closeCountReached id => exact (execCloseCountReached_path h).course
  | guardExpiry id => exact (execGuardExpiry_path h).course
  | transferComplete returned => exact (execTransferComplete_path h).course
  | pressureOkActive => exact (execPressureOkActive_path h).course
  | pressureOkInactive => exact (execPressureOkInactive_path h).course
  | chargeTimerExpiry => exact (execChargeTimerExpiry_path h).course
  | standbyTimerExpiry => exact (execStandbyTimerExpiry_path h).course
  | confirmEntryTaken => exact (execConfirmEntryTaken_path h).course
  | arrivalEntryTaken => exact (execArrivalEntryTaken_path h).course
  | expectationExpiry id => exact (execExpectationExpiry_path h).course
  | heldArrivalLeave => exact (execHeldArrivalLeave_path h).course
  | haltingEnd => exact (execHaltingEnd_path h).course
  | stationReset cause => exact (execStationReset_path h).course
  | powerOnReset => exact absurd rfl hc
  | badCommandCode code arg =>
    change execBadCommandCode code arg s = _ at h
    unfold execBadCommandCode at h
    split at h <;> cases h
    · exact (taken_path (respond_departs _ · |>.path) s).course
    · exact .inl (.refl s)
  | portTransactionAbandoned => cases h; exact (taken_path (fun _ => Departs.path .of_same) s).course
  | loadProfile arg =>
    cases h
    exact (taken_path (fun _ => judge_path fun hl => loadChecked_path (not_working_of_acceptsLoad hl)) s).course
  | start arg =>
    cases h
    exact (taken_path (fun a => judge_path fun _ => carryOut_path
      ((startStation_path a).trans (syncBar_departs _).path)) s).course
  | halt arg =>
    cases h
    exact (taken_path (fun a => judge_path fun _ => carryOut_path
      ((haltStation_path a).trans (syncBar_departs _).path)) s).course
  | resumeLink arg =>
    cases h
    refine (taken_path (fun a => judge_path fun hl => carryOut_path (listen_path fun ha => ?_)) s).course
    simp only [Bool.and_eq_true] at hl
    refine Bool.eq_false_iff.2 fun hd => ?_
    simp [isSilent, ha hd] at hl
  | editValveMap arg =>
    cases h
    exact (taken_path (fun a => judge_path fun _ => editChecked_path arg a) s).course
  | removeOutcomes arg => cases h; exact (taken_path (fun a => judge_path fun _ => removeAnswered_path arg a) s).course
  | clearEvents arg => cases h; exact (taken_path (fun _ => judge_path fun _ => carryOut_path (Departs.path .of_same)) s).course
  | setEventMask arg => cases h; exact (taken_path (fun _ => judge_path fun _ => carryOut_path (Departs.path .of_same)) s).course
  | reset arg => cases h; exact (taken_path (fun _ => judge_path fun _ => carryOut_path (Departs.path .of_same)) s).course
  | readValveMap arg | readStatus arg | readPeers arg | readOutcomes arg =>
    cases h; exact (taken_path (fun a => judge_path fun _ => carryOut_path (.refl a)) s).course

end Sys2Proof.Machine
end

/-! ### Laws that every step keeps, by the moves it is made of -/

section
namespace Sys2Proof.Machine

set_option Elab.async false

/-- A law that every move and every placement keeps is kept by every step. -/
theorem keptByEveryStep_of_moves {P : State → Prop} (hmove : ∀ s t, Move s t → P s → P t)
    (hplace : ∀ s t, Places s t → P s → P t) (hroll : ∀ c s, P s → P (rolled c s)) (hpower : ∀ s, P (powerOn s)) :
    KeptByEveryStep P := by
  intro s t hs hstep
  unfold step at hstep
  split at hstep
  · cases hstep
    exact hmove s _ (.depart .of_same) hs
  · rename_i c rest _
    have hs' : P { s with pending := rest } := hmove s _ (.depart .of_same) hs
    by_cases hc : c = .powerOnReset
    · subst hc
      cases hstep
      exact hpower _
    · obtain h | ⟨a, b, hsa, hab, hbt⟩ := exec_course hstep hc
      · exact h.keeps hmove (hroll c _ hs')
      · exact hbt.keeps hmove (hplace a b hab (hsa.keeps hmove (hroll c _ hs')))

/-! #### What a departure leaves alone -/

section
variable {s t : State} (h : Departs s t)
include h

theorem Departs.count : t.belt.count = s.belt.count := congrArg Base.count h.base
theorem Departs.windowList : t.belt.windowList = s.belt.windowList := congrArg Base.windowList h.base
theorem Departs.speed : t.belt.speed = s.belt.speed := congrArg Base.speed h.base
theorem Departs.nextKey : t.engine.nextKey = s.engine.nextKey := congrArg Base.nextKey h.base
theorem Departs.link : t.link.state = s.link.state := congrArg Base.link h.base
theorem Departs.frame : t.link.frame = s.link.frame := congrArg Base.frame h.base
theorem Departs.descriptors : t.valves.valve.map (·.descriptor) = s.valves.valve.map (·.descriptor) :=
  congrArg Base.descriptors h.base
theorem Departs.supply : t.air.supply = s.air.supply := congrArg Base.supply h.base
theorem Departs.station : t.port.station = s.port.station := congrArg Base.station h.base
theorem Departs.profile : t.port.profile = s.port.profile := congrArg Base.profile h.base

theorem Departs.prof : prof t = prof s := congrArg (fun p : Option Profile => p.getD Profile.blank) h.profile
theorem Departs.working : working t = working s := working_of_station h.station

end

/-! #### The belt count (R1, R13) -/

theorem Move.count {s t : State} (h : Move s t) : t.belt.count = s.belt.count := by
  cases h with
  | depart h => exact h.count
  | supply _ h => exact h.count
  | admits _ _ _ h => exact h.count
  | opens base => exact congrArg Base.count base
  | merge _ _ _ _ h => rw [h]; rfl
  | window _ _ _ h => exact h.count
  | link _ _ _ h => exact h.count
  | map _ _ h => exact h.count
  | station _ _ h => exact h.count
  | profile _ _ _ h => exact h.count
  | reset h => rw [h]; rfl

theorem Places.count {s t : State} (h : Places s t) : t.belt.count = s.belt.count := by
  cases h with
  | fresh _ a b _ room kept _ _ _ h => exact h.count.trans (kept.count.trans (roomForTrack_departs room).count)
  | moved _ _ _ _ h => exact h.count

theorem Course.count {s t : State} (h : Course s t) : t.belt.count = s.belt.count := by
  have hpath {a b : State} (h : Path a b) : b.belt.count = a.belt.count :=
    h.keeps (P := fun x => x.belt.count = a.belt.count) (fun _ _ hm hx => hm.count.trans hx) rfl
  obtain h | ⟨a, b, hsa, hab, hbt⟩ := h
  · exact hpath h
  · exact (hpath hbt).trans (hab.count.trans (hpath hsa))

/-- Settles O59: no move and no placement touches the belt count, so a command's own edge alone moves it. -/
theorem onlyEncoderEdgesMoveTheBeltCount : Obligations.OnlyEncoderEdgesMoveTheBeltCount := by
  intro c s t h hc
  have hcount := (exec_course h hc).count
  rw [hcount]
  by_cases hf : c = .encoderEdge .forward
  · exact .inr (.inl ⟨hf, by rw [hf]; rfl⟩)
  by_cases hr : c = .encoderEdge .reverse
  · refine .inr (.inr ⟨hr, ?_⟩)
    rw [hr]
    dsimp only [rolled, stepReverse]
    split <;> rfl
  · left
    unfold rolled
    split
    · exact absurd rfl hf
    · exact absurd rfl hr
    · rfl

/-! #### A driven frame on an ACTIVE link (R84) -/

theorem drivesWhenActive_of_same {s t : State} (hl : t.link.state = s.link.state) (hf : t.link.frame = s.link.frame)
    (h : DrivesWhenActive s) : DrivesWhenActive t := by
  unfold DrivesWhenActive driving at h ⊢
  rwa [hl, hf]

theorem Departs.drivesWhenActive {s t : State} (h : Departs s t) (hs : DrivesWhenActive s) : DrivesWhenActive t :=
  drivesWhenActive_of_same h.link h.frame hs

theorem Move.drivesWhenActive {s t : State} (h : Move s t) (hs : DrivesWhenActive s) : DrivesWhenActive t := by
  cases h with
  | depart h => exact h.drivesWhenActive hs
  | supply _ h => exact h.drivesWhenActive hs
  | admits _ _ _ h => exact h.drivesWhenActive hs
  | opens base => exact drivesWhenActive_of_same (congrArg Base.link base) (congrArg Base.frame base) hs
  | merge _ _ _ _ h => rw [h]; exact hs
  | window _ _ _ h => exact h.drivesWhenActive hs
  | link state frame guard h =>
    intro hd
    rw [h.link]
    simp only [driving, Bool.or_eq_true, decide_eq_true_eq, h.frame] at hd
    exact guard hs hd
  | map _ _ h => exact h.drivesWhenActive hs
  | station _ _ h => exact h.drivesWhenActive hs
  | profile _ _ _ h => exact h.drivesWhenActive hs
  | reset h => rw [h]; exact nofun

theorem Places.drivesWhenActive {s t : State} (h : Places s t) (hs : DrivesWhenActive s) : DrivesWhenActive t := by
  cases h with
  | fresh _ _ _ _ room kept _ _ _ h =>
    exact h.drivesWhenActive (kept.drivesWhenActive ((roomForTrack_departs room).drivesWhenActive hs))
  | moved _ _ _ _ h => exact h.drivesWhenActive hs

theorem rolled_drivesWhenActive (c : Instr) (s : State) (h : DrivesWhenActive s) : DrivesWhenActive (rolled c s) := by
  unfold rolled; split <;> exact h

/-- Settles O28: a move to a driven frame is guarded by an ACTIVE link, and a link leaves ACTIVE with no frame driven. -/
theorem onlyAnActiveLinkDrives : Obligations.OnlyAnActiveLinkDrives :=
  keptByEveryStep_of_moves (fun _ _ h => h.drivesWhenActive) (fun _ _ h => h.drivesWhenActive) rolled_drivesWhenActive
    (fun _ => nofun)

/-! #### The valve map (R170) -/

theorem Departs.mapLawful {s t : State} (h : Departs s t) (hs : MapLawful s) : MapLawful t :=
  (mapLaw_of_descriptors h.descriptors).trans hs

theorem Move.mapLawful {s t : State} (h : Move s t) (hs : MapLawful s) : MapLawful t := by
  cases h with
  | depart h => exact h.mapLawful hs
  | supply _ h => exact h.mapLawful hs
  | admits _ _ _ h => exact h.mapLawful hs
  | opens base => exact (mapLaw_of_descriptors (congrArg Base.descriptors base)).trans hs
  | merge _ _ _ _ h => rw [h]; exact hs
  | window _ _ _ h => exact h.mapLawful hs
  | link _ _ _ h => exact h.mapLawful hs
  | map m lawful h => exact h.mapLawful (s := installMap m s) (lawful hs)
  | station _ _ h => exact h.mapLawful hs
  | profile _ _ _ h => exact h.mapLawful hs
  | reset h => rw [h]; exact hs

theorem Places.mapLawful {s t : State} (h : Places s t) (hs : MapLawful s) : MapLawful t := by
  cases h with
  | fresh _ _ _ _ room kept _ _ _ h => exact h.mapLawful (kept.mapLawful ((roomForTrack_departs room).mapLawful hs))
  | moved _ _ _ _ h => exact h.mapLawful hs

theorem rolled_mapLawful (c : Instr) (s : State) (h : MapLawful s) : MapLawful (rolled c s) := by
  unfold rolled; split <;> exact h

theorem powerOn_mapLawful (s : State) : MapLawful (powerOn s) := by
  refine mapLaw_iff.2 ⟨fun v hv => ?_, fun v hv => ?_, fun u _ hl _ => ?_, ?_⟩
  · obtain ⟨hlt, hd⟩ := descAt_eq_some.1 hv
    simp [powerOn, State.reset, ValveMap.reset, Valve.fresh] at hd
  · obtain ⟨hlt, hd⟩ := descAt_eq_some.1 hv
    simp [powerOn, State.reset, ValveMap.reset, Valve.fresh] at hd
  · obtain ⟨hlt, hd⟩ := descAt_eq_some.1 hl
    simp [powerOn, State.reset, ValveMap.reset, Valve.fresh] at hd
  · change coverTableSize ValveMap.reset.valve ≤ Config.coverSize
    decide

/-- Settles O42: a map takes effect only when it passed the checks of an edit, or is what a fault mask makes of a lawful one. -/
theorem valveMapLawsHoldAfterEveryStep : Obligations.ValveMapLawsHoldAfterEveryStep :=
  keptByEveryStep_of_moves (fun _ _ h => h.mapLawful) (fun _ _ h => h.mapLawful) rolled_mapLawful powerOn_mapLawful

/-! #### The watermark (R192, field 43) -/

theorem watermarkSet_of_profile {s t : State} (h : t.port.profile = s.port.profile) (hs : WatermarkSet s) :
    WatermarkSet t := by
  unfold WatermarkSet
  rwa [h]

theorem Move.watermarkSet {s t : State} (h : Move s t) (hs : WatermarkSet s) : WatermarkSet t := by
  cases h with
  | depart h => exact watermarkSet_of_profile h.profile hs
  | supply _ h => exact watermarkSet_of_profile h.profile hs
  | admits _ _ _ h => exact watermarkSet_of_profile h.profile hs
  | opens base => exact watermarkSet_of_profile (congrArg Base.profile base) hs
  | merge _ _ _ _ h => rw [h]; exact hs
  | window _ _ _ h => exact watermarkSet_of_profile h.profile hs
  | link _ _ _ h => exact watermarkSet_of_profile h.profile hs
  | map _ _ h => exact watermarkSet_of_profile h.profile hs
  | station _ _ h => exact watermarkSet_of_profile h.profile hs
  | profile a _ checked h => exact watermarkSet_of_held h.profile (watermark_of_loaded checked).1
  | reset h => rw [h]; exact hs

theorem Places.profile {s t : State} (h : Places s t) : t.port.profile = s.port.profile := by
  cases h with
  | fresh _ _ _ _ room kept _ _ _ h => exact h.profile.trans (kept.profile.trans (roomForTrack_departs room).profile)
  | moved _ _ _ _ h => exact h.profile

theorem watermarkSet_keptByEveryStep : KeptByEveryStep WatermarkSet :=
  keptByEveryStep_of_moves (fun _ _ h => h.watermarkSet) (fun _ _ h => watermarkSet_of_profile h.profile)
    (fun c s h => by unfold rolled; split <;> exact h) (fun _ => nofun)

/-! #### Driven valves (R160, R163, R165) -/

theorem DrivesActive.of_departs {s t : State} (hs : DrivesActive s) (h : Departs s t) : DrivesActive t := by
  intro e he ho v hv
  obtain ⟨o, hmem, hoe⟩ := h.entries e he
  obtain ⟨hopen, hdrive⟩ := hoe.opened ho
  exact (descriptor_of_descriptors h.descriptors v).trans (hs o hmem hopen v (hdrive v hv))

theorem getLsbD_leftActive {before after : Vector Valve 64} {v : Fin 64} :
    (leftActive before after).getLsbD v = true ↔ before[v].descriptor = .active ∧ after[v].descriptor ≠ .active := by
  unfold leftActive
  rw [getLsbD_foldl_union (fun u : Fin 64 => decide (before[u].descriptor = .active) && decide (after[u].descriptor ≠ .active))
    (fun u => valveBit u)]
  simp only [valveBit, BitVec.getLsbD_twoPow, List.mem_finRange, Bool.and_eq_true, decide_eq_true_eq, true_and]
  constructor
  · rintro (hz | ⟨u, hu, -, hv⟩)
    · simp at hz
    · rwa [← Fin.ext hv]
  · exact fun hv => .inr ⟨v, hv, v.isLt, rfl⟩

theorem cutDrive_from (vs : ValveSet) (e : Entry) : EntryFrom e (cutDrive vs e) := by
  have hdrive : Within (e.drive &&& ~~~ vs) e.drive := within_and_left _ _
  unfold cutDrive
  split
  · rename_i ho
    exact ⟨rfl, rfl, rfl, by simpa [loadSet, ho] using hdrive, fun _ => ⟨ho, hdrive⟩⟩
  · exact .refl e

theorem installMap_drivesActive {m : Vector Valve 64} {s : State} (hs : DrivesActive s) : DrivesActive (installMap m s) := by
  intro e he ho v hv
  obtain ⟨o, hmem, rfl⟩ := List.mem_map.1 he
  have hopen := ((cutDrive_from (leftActive s.valves.valve m) o).opened ho).1
  simp only [cutDrive, hopen, if_true, BitVec.getLsbD_and, BitVec.getLsbD_not, Bool.and_eq_true, Bool.not_eq_true'] at hv
  obtain ⟨hdrive, -, hleft⟩ := hv
  by_contra hnot
  exact Bool.false_ne_true (hleft.symm.trans (getLsbD_leftActive.2 ⟨hs o hmem hopen v hdrive, hnot⟩))

theorem Move.drivesActive {s t : State} (h : Move s t) (hs : DrivesActive s) : DrivesActive t := by
  cases h with
  | depart h => exact hs.of_departs h
  | supply new h => exact DrivesActive.of_departs (show DrivesActive { s with air.supply := new } from hs) h
  | admits e later guard h =>
    refine DrivesActive.of_departs (fun x hx hopen => ?_) h
    obtain rfl | hx := mem_insertBefore.1 hx
    · rw [guard.reserved] at hopen; cases hopen
    · exact hs x hx hopen
  | opens base tracks origin =>
    intro e he ho v hv
    obtain ⟨o, hmem, hfrom | hopens⟩ := origin e he
    · obtain ⟨hopen, hdrive⟩ := hfrom.opened ho
      exact (descriptor_of_descriptors (congrArg Base.descriptors base) v).trans (hs o hmem hopen v (hdrive v hv))
    · exact (descriptor_of_descriptors (congrArg Base.descriptors base) v).trans (hopens.active v hv)
  | merge _ _ _ _ h => rw [h]; exact hs
  | window l x _ h => exact DrivesActive.of_departs (show DrivesActive { s with belt.windowList := l, belt.speed := x } from hs) h
  | link l f _ h => exact DrivesActive.of_departs (show DrivesActive { s with link.state := l, link.frame := f } from hs) h
  | map m _ h => exact (installMap_drivesActive hs).of_departs h
  | station x _ h => exact DrivesActive.of_departs (show DrivesActive { s with port.station := x } from hs) h
  | profile a _ _ h =>
    exact DrivesActive.of_departs (show DrivesActive { s with port.profile := some (profileOf a), port.station := .ready } from hs) h
  | reset h => rw [h]; exact fun _ he => nomatch he

theorem Places.drivesActive {s t : State} (h : Places s t) (hs : DrivesActive s) : DrivesActive t := by
  cases h with
  | fresh _ a b x room kept _ _ _ h =>
    have hb : DrivesActive b := (hs.of_departs (roomForTrack_departs room)).of_departs kept
    exact DrivesActive.of_departs (s := { b with
      engine.tracks := placeTrack x b.engine.tracks, engine.nextKey := b.engine.nextKey + 1 }) hb h
  | moved o x m _ h =>
    exact DrivesActive.of_departs (s := { s with
      engine.tracks := placeTrack (movedTrack x m o) (s.engine.tracks.filter fun u => u.key ≠ o.key) }) hs h

theorem OpensOnAir.of_departs {s t : State} (hs : OpensOnAir s) (h : Departs s t) : OpensOnAir t := by
  intro e he ho
  obtain ⟨o, hmem, hoe⟩ := h.entries e he
  rw [h.supply]
  exact hs o hmem (hoe.opened ho).1

theorem Move.opensOnAir {s t : State} (h : Move s t) (hs : OpensOnAir s) : OpensOnAir t := by
  cases h with
  | depart h => exact hs.of_departs h
  | supply new h noneOpen =>
    intro e he ho
    rw [h.supply]
    obtain hready | hlow | hnone := noneOpen
    · exact .inl hready
    · exact .inr hlow
    · exact absurd ho (hnone e he)
  | admits e later guard h =>
    refine OpensOnAir.of_departs (fun x hx hopen => ?_) h
    obtain rfl | hx := mem_insertBefore.1 hx
    · rw [guard.reserved] at hopen; cases hopen
    · exact hs x hx hopen
  | opens base tracks origin =>
    intro e he ho
    rw [show t.air.supply = s.air.supply from congrArg Base.supply base]
    obtain ⟨o, hmem, hfrom | hopens⟩ := origin e he
    · exact hs o hmem (hfrom.opened ho).1
    · exact hopens.supply
  | merge _ _ _ _ h => rw [h]; exact hs
  | window l x _ h => exact OpensOnAir.of_departs (show OpensOnAir { s with belt.windowList := l, belt.speed := x } from hs) h
  | link l f _ h => exact OpensOnAir.of_departs (show OpensOnAir { s with link.state := l, link.frame := f } from hs) h
  | map m _ h =>
    refine OpensOnAir.of_departs (s := installMap m s) (fun e he ho => ?_) h
    obtain ⟨o, hmem, rfl⟩ := List.mem_map.1 he
    exact hs o hmem ((cutDrive_from _ o).opened ho).1
  | station x _ h => exact OpensOnAir.of_departs (show OpensOnAir { s with port.station := x } from hs) h
  | profile a _ _ h =>
    exact OpensOnAir.of_departs (show OpensOnAir { s with port.profile := some (profileOf a), port.station := .ready } from hs) h
  | reset h => rw [h]; exact fun _ he => nomatch he

theorem Places.opensOnAir {s t : State} (h : Places s t) (hs : OpensOnAir s) : OpensOnAir t := by
  cases h with
  | fresh _ a b x room kept _ _ _ h =>
    have hb : OpensOnAir b := (hs.of_departs (roomForTrack_departs room)).of_departs kept
    exact OpensOnAir.of_departs (s := { b with
      engine.tracks := placeTrack x b.engine.tracks, engine.nextKey := b.engine.nextKey + 1 }) hb h
  | moved o x m _ h =>
    exact OpensOnAir.of_departs (s := { s with
      engine.tracks := placeTrack (movedTrack x m o) (s.engine.tracks.filter fun u => u.key ≠ o.key) }) hs h

/-- Settles O41: an entry opens only with ACTIVE valves on a READY or LOW supply; a valve that leaves ACTIVE is cut from every
drive at once, and a supply that leaves READY and LOW interrupts every OPEN entry. -/
theorem drivenValvesStayActive : Obligations.DrivenValvesStayActive :=
  ⟨keptByEveryStep_of_moves (fun _ _ h => h.drivesActive) (fun _ _ h => h.drivesActive)
      (fun c s h => by unfold rolled; split <;> exact h) (fun _ _ he => nomatch he),
    keptByEveryStep_of_moves (fun _ _ h => h.opensOnAir) (fun _ _ h => h.opensOnAir)
      (fun c s h => by unfold rolled; split <;> exact h) (fun _ _ he => nomatch he)⟩

end Sys2Proof.Machine
end

/-! ### The track table (R32, R33, R44) -/

section
namespace Sys2Proof.Machine

set_option Elab.async false

theorem insertBefore_perm {α : Type} (later : α → Bool) (x : α) (l : List α) : (insertBefore later x l).Perm (x :: l) := by
  induction l with
  | nil => exact .refl _
  | cons y ys ih =>
    unfold insertBefore
    split
    · exact .refl _
    · exact (ih.cons y).trans (.swap x y ys)

theorem map_insertBefore {α β : Type} (f : α → β) (later : α → Bool) (later' : β → Bool) (h : ∀ y, later y = later' (f y))
    (x : α) (l : List α) : (insertBefore later x l).map f = insertBefore later' (f x) (l.map f) := by
  induction l with
  | nil => rfl
  | cons y ys ih =>
    unfold insertBefore
    rw [h y]
    split
    · simp [*]
    · simp [*]

/-! #### Distinct keys and IDs -/

/-- A table law that reads a list of keys and a list of IDs. -/
theorem TableLawful.of_perm {s t : State} (hs : TableLawful s) (hk : (t.engine.tracks.map (·.key)).Perm (s.engine.tracks.map (·.key)))
    (hi : (t.engine.tracks.flatMap idsOf).Perm (s.engine.tracks.flatMap idsOf)) (hn : t.engine.nextKey = s.engine.nextKey) :
    TableLawful t := by
  refine ⟨⟨hk.nodup_iff.2 hs.keys.1, fun u hu => ?_⟩, ?_, hi.nodup_iff.2 hs.ids⟩
  · obtain ⟨v, hv, hvu⟩ := List.mem_map.1 (hk.subset (List.mem_map.2 ⟨u, hu, rfl⟩))
    rw [hn, ← hvu]
    exact hs.keys.2 v hv
  · have hlen := hk.length_eq
    simp only [List.length_map] at hlen
    rw [hlen]
    exact hs.size

theorem Departs.tableLawful {s t : State} (h : Departs s t) (hs : TableLawful s) : TableLawful t := by
  refine ⟨⟨hs.keys.1.sublist h.tracks.keys, fun u hu => ?_⟩, h.tracks.length_le.trans hs.size, hs.ids.sublist h.tracks.ids⟩
  obtain ⟨v, hv, hvu⟩ := List.mem_map.1 (h.tracks.keys.subset (List.mem_map.2 ⟨u, hu, rfl⟩))
  rw [h.nextKey, ← hvu]
  exact hs.keys.2 v hv

theorem tableLawful_of_same {s t : State} (he : t.engine = s.engine) (hs : TableLawful s) : TableLawful t := by
  obtain ⟨⟨hk, hn⟩, hsize, hids⟩ := hs
  rw [← he] at hk hn hsize hids
  exact ⟨⟨hk, hn⟩, hsize, hids⟩

/-- With distinct keys a track stands once in the table, beside those of the other keys. -/
theorem perm_cons_filter_key {ts : List Track} {o : Track} (hk : (ts.map (·.key)).Nodup) (ho : o ∈ ts) :
    ts.Perm (o :: ts.filter fun u => u.key ≠ o.key) := by
  induction ts with
  | nil => cases ho
  | cons u us ih =>
    rw [List.map_cons, List.nodup_cons] at hk
    obtain ⟨hnot, hk⟩ := hk
    have hothers {v : Track} (hv : v ∈ us) : v.key ≠ u.key := fun h => hnot (List.mem_map.2 ⟨v, hv, h⟩)
    obtain rfl | ho := List.mem_cons.1 ho
    · rw [List.filter_cons_of_neg (by simp), List.filter_eq_self.2 fun v hv => by simpa using hothers hv]
    · rw [List.filter_cons_of_pos (by simpa using (hothers ho).symm)]
      exact ((ih hk ho).cons u).trans (.swap o u _)

/-- A change of one track is a change of the one that stands out (R33). -/
theorem perm_map_of_key {ts : List Track} {o : Track} (f : Track → Track) (hk : (ts.map (·.key)).Nodup) (ho : o ∈ ts) :
    (ts.map fun u => if u.key = o.key then f u else u).Perm (f o :: ts.filter fun u => u.key ≠ o.key) := by
  refine ((perm_cons_filter_key hk ho).map _).trans ?_
  rw [List.map_cons, if_pos rfl]
  refine List.Perm.of_eq (congrArg _ ((List.map_congr_left fun u hu => ?_).trans (List.map_id _)))
  exact if_neg (by simpa using (List.mem_filter.1 hu).2)

theorem mergeId_key (id : PieceId) (t : Track) : (mergeId id t).key = t.key := by
  unfold mergeId; split <;> rfl

theorem mergeId_d (id : PieceId) (t : Track) : (mergeId id t).d = t.d := by
  unfold mergeId; split <;> rfl

theorem idsOf_mergeId {id : PieceId} {t : Track} (h : t.aliasId = none) : (idsOf (mergeId id t)).Perm (id :: idsOf t) := by
  unfold mergeId
  split
  · simp [idsOf, h]
  · simpa [idsOf, h] using List.Perm.swap id t.primary []

/-- A merge gives a track one more ID, and one that no track had (R44). -/
theorem merge_tableLawful {id : PieceId} {key : Nat} {s : State} (hs : TableLawful s) (free : trackOf id s = none)
    (alone : ∃ t ∈ s.engine.tracks, t.key = key ∧ t.aliasId = none) : TableLawful (modifyTrack key (mergeId id) s) := by
  obtain ⟨o, ho, rfl, halone⟩ := alone
  have hsame := perm_cons_filter_key hs.keys.1 ho
  have hnew := perm_map_of_key (mergeId id) hs.keys.1 ho
  have hkeys : ((modifyTrack o.key (mergeId id) s).engine.tracks.map (·.key)) = s.engine.tracks.map (·.key) := by
    simp only [modifyTrack, List.map_map]
    refine List.map_congr_left fun u _ => ?_
    by_cases hu : u.key = o.key <;> simp [hu, mergeId_key]
  have hids : ((modifyTrack o.key (mergeId id) s).engine.tracks.flatMap idsOf).Perm
      (id :: s.engine.tracks.flatMap idsOf) := by
    refine (hnew.flatMap_right _).trans (List.Perm.trans ?_ ((hsame.symm.flatMap_right _).cons id))
    simp only [List.flatMap_cons]
    exact (idsOf_mergeId halone).append_right _
  refine ⟨⟨hkeys ▸ hs.keys.1, fun u hu => ?_⟩, ?_, hids.nodup_iff.2 (List.nodup_cons.2 ⟨fun hin => ?_, hs.ids⟩)⟩
  · obtain ⟨v, hv, hvu⟩ := List.mem_map.1 (hkeys ▸ List.mem_map.2 ⟨u, hu, rfl⟩ : u.key ∈ s.engine.tracks.map (·.key))
    rw [← hvu]
    exact hs.keys.2 v hv
  · exact (List.length_map _).le.trans hs.size
  · obtain ⟨u, hu, hid⟩ := List.mem_flatMap.1 hin
    exact trackOf_eq_none_iff.1 free u hu hid

theorem emptyTable_lawful {t : State} (h : t.engine.tracks = []) : TableLawful t := by
  refine ⟨⟨?_, ?_⟩, ?_, ?_⟩ <;> simp [h]

theorem Move.tableLawful {s t : State} (h : Move s t) (hs : TableLawful s) : TableLawful t := by
  cases h with
  | depart h => exact h.tableLawful hs
  | supply _ h => exact h.tableLawful (tableLawful_of_same (s := s) rfl hs)
  | admits _ _ _ h => exact h.tableLawful (tableLawful_of_same (s := s) rfl hs)
  | opens base tracks =>
    exact hs.of_perm (by rw [tracks]) (by rw [tracks]) (congrArg Base.nextKey base)
  | merge id key free alone h => rw [h]; exact merge_tableLawful hs free alone
  | window _ _ _ h => exact h.tableLawful (tableLawful_of_same (s := s) rfl hs)
  | link _ _ _ h => exact h.tableLawful (tableLawful_of_same (s := s) rfl hs)
  | map _ _ h => exact h.tableLawful (tableLawful_of_same (s := s) rfl hs)
  | station _ _ h => exact h.tableLawful (tableLawful_of_same (s := s) rfl hs)
  | profile _ _ _ h => exact h.tableLawful (tableLawful_of_same (s := s) rfl hs)
  | reset h => rw [h]; exact emptyTable_lawful rfl

theorem Places.tableLawful {s t : State} (h : Places s t) (hs : TableLawful s) : TableLawful t := by
  cases h with
  | fresh _ a b x room kept key alone free h =>
    have hb := kept.tableLawful ((roomForTrack_departs room).tableLawful hs)
    have hroom : b.engine.tracks.length < 128 := kept.tracks.length_le.trans_lt (length_of_roomForTrack room hs.size)
    have hperm : (placeTrack x b.engine.tracks).Perm (x :: b.engine.tracks) := insertBefore_perm _ _ _
    refine h.tableLawful ⟨⟨?_, fun u hu => ?_⟩, ?_, ?_⟩
    · refine (hperm.map _).nodup_iff.2 (List.nodup_cons.2 ⟨fun hin => ?_, hb.keys.1⟩)
      obtain ⟨u, hu, hux⟩ := List.mem_map.1 hin
      exact (hb.keys.2 u hu).ne (hux.trans key)
    · obtain rfl | hu := List.mem_cons.1 (hperm.subset hu)
      · change u.key < b.engine.nextKey + 1
        omega
      · exact (hb.keys.2 u hu).trans (Nat.lt_succ_self _)
    · change (placeTrack x b.engine.tracks).length ≤ 128
      rw [hperm.length_eq]
      exact hroom
    · refine (hperm.flatMap_right _).nodup_iff.2 ?_
      simp only [List.flatMap_cons, idsOf, alone, Option.toList_none, List.cons_append, List.nil_append]
      refine List.nodup_cons.2 ⟨fun hin => ?_, hb.ids⟩
      obtain ⟨u, hu, hid⟩ := List.mem_flatMap.1 hin
      exact trackOf_eq_none_iff.1 (free hroom) u hu hid
  | moved o x datum mem h =>
    have hperm := perm_cons_filter_key hs.keys.1 mem
    have hplace : (placeTrack (movedTrack x datum o) (s.engine.tracks.filter fun u => u.key ≠ o.key)).Perm
      (movedTrack x datum o :: s.engine.tracks.filter fun u => u.key ≠ o.key) := insertBefore_perm _ _ _
    refine h.tableLawful (hs.of_perm ?_ ?_ rfl)
    · exact (hplace.map _).trans (hperm.map (·.key)).symm
    · exact (hplace.flatMap_right _).trans (hperm.flatMap_right idsOf).symm

/-! #### The order of D -/

/-- The Ds of the table, in its order. -/
def tableDs (s : State) : List Count := s.engine.tracks.map (·.d)

/-- Counts in ascending order by signed difference. -/
def Ascending (ds : List Count) : Prop := ds.Pairwise fun a b => 0 ≤ signedDiff b a

theorem inTableOrder_iff {s : State} : InTableOrder s ↔ Ascending (tableDs s) := by
  simp [InTableOrder, Ascending, tableDs, List.pairwise_map]

theorem dsNear_iff {c : Count} {s : State} : DsNear c s ↔ ∀ d ∈ tableDs s, (signedDiff d c).natAbs < 536870912 := by
  simp [DsNear, tableDs]

theorem Move.tableDs {s t : State} (h : Move s t) : (tableDs t).Sublist (tableDs s) := by
  cases h with
  | depart h => exact h.tracks.ds
  | supply _ h => exact h.tracks.ds
  | admits _ _ _ h => exact h.tracks.ds
  | opens _ tracks => rw [Machine.tableDs, tracks]; exact List.Sublist.refl _
  | merge id key _ _ h =>
    rw [h]
    have hsame : Machine.tableDs (modifyTrack key (mergeId id) s) = Machine.tableDs s := by
      simp only [Machine.tableDs, modifyTrack, List.map_map]
      refine List.map_congr_left fun u _ => ?_
      by_cases hu : u.key = key <;> simp [hu, mergeId_d]
    rw [hsame]
  | window _ _ _ h => exact h.tracks.ds
  | link _ _ _ h => exact h.tracks.ds
  | map _ _ h => exact h.tracks.ds
  | station _ _ h => exact h.tracks.ds
  | profile _ _ _ h => exact h.tracks.ds
  | reset h => rw [h]; exact List.nil_sublist _

theorem Path.tableDs {s t : State} (h : Path s t) : (tableDs t).Sublist (tableDs s) :=
  h.keeps (P := fun x => (Machine.tableDs x).Sublist (Machine.tableDs s)) (fun _ _ hm hx => hm.tableDs.trans hx)
    (List.Sublist.refl _)

theorem map_placeTrack (x : Track) (ts : List Track) :
    (placeTrack x ts).map (·.d) = insertBefore (fun u => isAfter u x.d) x.d (ts.map (·.d)) := by
  rw [placeTrack, map_insertBefore (fun u : Track => u.d) _ (fun u => isAfter u x.d)]
  exact fun _ => rfl

/-- A placement puts one D in its place among Ds that were there (R32). -/
theorem Places.tableDs {s t : State} (h : Places s t) :
    ∃ d ds, ds.Sublist (tableDs s) ∧ (tableDs t).Sublist (insertBefore (fun u => isAfter u d) d ds) := by
  cases h with
  | fresh _ a b x room kept _ _ _ h =>
    refine ⟨x.d, Machine.tableDs b, kept.tracks.ds.trans (roomForTrack_departs room).tracks.ds, h.tracks.ds.trans ?_⟩
    exact map_placeTrack x _ ▸ List.Sublist.refl _
  | moved o x m _ h =>
    refine ⟨x.d, (s.engine.tracks.filter fun u => u.key ≠ o.key).map (·.d), List.filter_sublist.map _, h.tracks.ds.trans ?_⟩
    exact map_placeTrack (movedTrack x m o) _ ▸ List.Sublist.refl _

/-- Between counts near a third one the signed difference is the difference of their offsets. -/
theorem signedDiff_of_near {a b c : Count} (ha : (signedDiff a c).natAbs < 536870912)
    (hb : (signedDiff b c).natAbs < 536870912) : signedDiff a b = signedDiff a c - signedDiff b c := by
  have hab : a - b = (a - c) - (b - c) := by bv_omega
  unfold signedDiff at *
  rw [hab, BitVec.toInt_sub, Int.bmod_eq_of_le] <;> omega

/-- Among counts near one of them, placing one keeps the ascending order. -/
theorem ascending_insertBefore {d c : Count} {ds : List Count} (hds : Ascending ds)
    (hnear : ∀ u ∈ ds, (signedDiff u c).natAbs < 536870912) (hd : (signedDiff d c).natAbs < 536870912) :
    Ascending (insertBefore (fun u => isAfter u d) d ds) := by
  induction ds with
  | nil => exact List.pairwise_singleton _ _
  | cons y ys ih =>
    obtain ⟨hy, hys⟩ := List.pairwise_cons.1 hds
    obtain ⟨hny, hnys⟩ := List.forall_mem_cons.1 hnear
    unfold insertBefore
    split
    · rename_i hafter
      simp only [isAfter, decide_eq_true_eq] at hafter
      refine List.pairwise_cons.2 ⟨fun u hu => ?_, hds⟩
      obtain rfl | hu := List.mem_cons.1 hu
      · exact hafter.le
      · have huy := hy u hu
        rw [signedDiff_of_near (hnys u hu) hny] at huy
        rw [signedDiff_of_near hny hd] at hafter
        rw [signedDiff_of_near (hnys u hu) hd]
        omega
    · rename_i hnot
      simp only [isAfter, decide_eq_true_eq, not_lt] at hnot
      refine List.pairwise_cons.2 ⟨fun u hu => ?_, ih hys hnys⟩
      obtain rfl | hu := mem_insertBefore.1 hu
      · rw [signedDiff_of_near hny hd] at hnot
        rw [signedDiff_of_near hd hny]
        omega
      · exact hy u hu

theorem filter_insertBefore_of_neg {α : Type} {later p : α → Bool} {x : α} (hx : p x = false) (l : List α) :
    (insertBefore later x l).filter p = l.filter p := by
  induction l with
  | nil => simp [insertBefore, hx]
  | cons y ys ih =>
    unfold insertBefore
    split
    · simp [hx]
    · rw [List.filter_cons, List.filter_cons, ih]

/-- A list of near counts within a placement is in order: a D placed far off has not stayed. -/
theorem ascending_of_placed {d c : Count} {ds es : List Count} (hds : Ascending ds)
    (hnear : ∀ u ∈ ds, (signedDiff u c).natAbs < 536870912) (hes : ∀ u ∈ es, (signedDiff u c).natAbs < 536870912)
    (h : es.Sublist (insertBefore (fun u => isAfter u d) d ds)) : Ascending es := by
  by_cases hd : (signedDiff d c).natAbs < 536870912
  · exact (ascending_insertBefore hds hnear hd).sublist h
  · have hsub := h.filter fun u => (signedDiff u c).natAbs < 536870912
    rw [List.filter_eq_self.2 (by simpa using hes), filter_insertBefore_of_neg (by simpa using hd)] at hsub
    exact hds.sublist (hsub.trans List.filter_sublist)

theorem Course.ascending {s t : State} {c : Count} (h : Course s t) (hs : Ascending (tableDs s))
    (hnear : ∀ d ∈ tableDs s, (signedDiff d c).natAbs < 536870912) (ht : ∀ d ∈ tableDs t, (signedDiff d c).natAbs < 536870912) :
    Ascending (tableDs t) := by
  obtain h | ⟨a, b, hsa, hab, hbt⟩ := h
  · exact hs.sublist h.tableDs
  · obtain ⟨d, ds, hds, hb⟩ := hab.tableDs
    have hsub := hds.trans hsa.tableDs
    exact ascending_of_placed (hs.sublist hsub) (fun u hu => hnear u (hsub.subset hu)) ht (hbt.tableDs.trans hb)

theorem rolled_engine (c : Instr) (s : State) : (rolled c s).engine = s.engine := by
  unfold rolled; split <;> rfl

/-- Settles O14: a track enters under a key and an ID of its own, with room made for it, or moves; a command places one track at
most, and among the Ds near one count its place is the right one. -/
theorem trackTableLawsHoldAfterEveryStep : Obligations.TrackTableLawsHoldAfterEveryStep := by
  refine ⟨keptByEveryStep_of_moves (fun _ _ h => h.tableLawful) (fun _ _ h => h.tableLawful)
    (fun c s => tableLawful_of_same (rolled_engine c s)) (fun _ => emptyTable_lawful rfl), ?_⟩
  intro s t c _ horder hnear hstep hnear'
  rw [inTableOrder_iff] at horder ⊢
  rw [dsNear_iff] at hnear hnear'
  unfold step at hstep
  split at hstep
  · cases hstep; exact horder
  · rename_i i rest _
    by_cases hi : i = .powerOnReset
    · subst hi
      cases hstep
      exact List.Pairwise.nil
    · have hsame : tableDs (rolled i { s with pending := rest }) = tableDs s := by
        rw [tableDs, rolled_engine]; rfl
      exact (exec_course hstep hi).ascending (c := c) (by rwa [hsame]) (by rwa [hsame]) hnear'

end Sys2Proof.Machine
end

/-! ### Windows and the plenum limit (R152, R153, R157, R158, R163) -/

section
namespace Sys2Proof.Machine

set_option Elab.async false

theorem signedDiff_add_counts {a : Count} {n : Nat} (h : n < 2147483648) : signedDiff (a + counts n) a = n := by
  have hsub : a + counts n - a = counts n := by bv_omega
  rw [signedDiff, hsub, counts, BitVec.toInt_ofNat', Int.bmod_eq_of_le] <;> omega

/-! #### The pulse of a window -/

/-- The pulse of a piece for a class before it is brought within its bounds (R152). -/
def rawPulse (p : Profile) (speed : Nat) (d : Count) (length : Nat) (c : ClassCode) : Int :=
  signedDiff (d + counts p.barOffset + counts length + counts p.marginRear[c] - counts (tenthsDown p.closeLatency speed))
    (d + counts p.barOffset - counts p.marginFront[c] - counts (tenthsUp p.openLatency speed))

section
variable (p : Profile) (speed : Nat) (d : Count) (length : Nat) (c : ClassCode)

theorem windowOf_openCount : (windowOf p speed d length c).openCount
    = d + counts p.barOffset - counts p.marginFront[c] - counts (tenthsUp p.openLatency speed) := by
  simp only [windowOf, apply_ite Window.openCount, ite_self]

theorem windowOf_pMin : (windowOf p speed d length c).pMin = tenthsUp p.minOnTime speed := by
  simp only [windowOf, apply_ite Window.pMin, ite_self]

theorem windowOf_pMax : (windowOf p speed d length c).pMax = tenthsDown p.maxOnTime speed := by
  simp only [windowOf, apply_ite Window.pMax, ite_self]

/-- R153 in one line: the pulse is brought between Pmin and the larger of Pmin and Pmax. -/
theorem windowOf_span (hmin : tenthsUp p.minOnTime speed < 2147483648) (hmax : tenthsDown p.maxOnTime speed < 2147483648) :
    signedDiff (windowOf p speed d length c).closeCount (windowOf p speed d length c).openCount
      = max (tenthsUp p.minOnTime speed : Int)
          (min (rawPulse p speed d length c) (max (tenthsUp p.minOnTime speed) (tenthsDown p.maxOnTime speed) : Nat)) := by
  unfold windowOf rawPulse
  dsimp only
  split
  case isTrue => rw [signedDiff_add_counts hmin]; omega
  case isFalse =>
    split
    case isTrue => split <;> dsimp only <;> [rw [signedDiff_add_counts hmax]; skip] <;> omega
    case isFalse => split <;> dsimp only <;> [rw [signedDiff_add_counts hmin]; skip] <;> omega

theorem windowOf_clamped (h : (windowOf p speed d length c).clamped = true) :
    ((max (tenthsUp p.minOnTime speed) (tenthsDown p.maxOnTime speed) : Nat) : Int) < rawPulse p speed d length c := by
  unfold windowOf at h
  unfold rawPulse
  dsimp only at h
  split at h
  case isTrue => cases h
  case isFalse =>
    split at h
    case isTrue => split at h <;> [omega; cases h]
    case isFalse => split at h <;> [omega; cases h]

theorem rawPulse_eq : rawPulse p speed d length c
    = signedDiff (d + counts p.barOffset + counts length + counts p.marginRear[c] - counts (tenthsDown p.closeLatency speed))
        (windowOf p speed d length c).openCount := by
  rw [windowOf_openCount, rawPulse]

end

theorem tenths_le {t speed m : Nat} (ht : t ≤ m) (hs : speed ≤ 4095) : t * speed ≤ m * 4095 := Nat.mul_le_mul ht hs

/-- Settles O15: the span of a window is its raw pulse clipped to its bounds. -/
theorem pulseStaysWithinItsBounds : Obligations.PulseStaysWithinItsBounds := by
  intro p speed d length c hminOn hmaxOn hspeed
  have hmul := tenths_le hminOn hspeed
  have hmul' := tenths_le hmaxOn hspeed
  have hspan := windowOf_span p speed d length c (by unfold tenthsUp; omega) (by unfold tenthsDown; omega)
  have hclamped := windowOf_clamped p speed d length c
  simp only [signedDiff, tenthsUp, tenthsDown] at hspan hclamped
  refine ⟨windowOf_pMin p speed d length c, windowOf_pMax p speed d length c, windowOf_openCount p speed d length c,
    ?_, fun h => ?_, fun h => ?_, fun h => ?_⟩
  · omega
  · omega
  · omega
  · have hraw := hclamped h
    refine lt_of_lt_of_eq ?_ (rawPulse_eq p speed d length c)
    omega

/-! #### The load after an admission (R157) -/

theorem loadAt_eq_zero_of_nil (x : Count) : loadAt [] 0 x = 0 := by
  rw [loadAt_nil]
  decide

/-- The load of windows and load sets alone. -/
theorem loadAt_le {es fs : List Entry}
    (h : ∀ f ∈ fs, ∃ e ∈ es, f.openCount = e.openCount ∧ f.closeCount = e.closeCount ∧ Within (loadSet f) (loadSet e))
    (x : Count) : loadAt fs 0 x ≤ loadAt es 0 x := by
  refine valveCount_mono fun v hv => getLsbD_loadedAt.2 ?_
  obtain hv | ⟨f, hf, hx, hv⟩ := getLsbD_loadedAt.1 hv
  · exact .inl hv
  · obtain ⟨e, he, hopen, hclose, hload⟩ := h f hf
    exact .inr ⟨e, he, by rwa [← hopen, ← hclose], hload v hv⟩

theorem windowHolds_iff {o c x : Count} : windowHolds o c x = true ↔ 0 ≤ signedDiff x o ∧ signedDiff x c < 0 := by
  simp [windowHolds]

/-- A window that holds a count holds every later opening before that count: it has not closed. -/
theorem windowHolds_later {o c x m : Count} (hspan : 0 ≤ signedDiff c o) (hx : windowHolds o c x = true)
    (hm : 0 ≤ signedDiff x m) (hlater : signedDiff x m ≤ signedDiff x o) : windowHolds o c m = true := by
  rw [windowHolds_iff] at hx ⊢
  have hmo : m - o = (x - o) - (x - m) := by bv_omega
  have hmc : m - c = (x - c) - (x - m) := by bv_omega
  have hco : c - o = (x - o) - (x - c) := by bv_omega
  unfold signedDiff at *
  rw [hco] at hspan
  rw [hmo, hmc]
  generalize x - o = u at *
  generalize x - c = v at *
  generalize x - m = w at *
  have hu := BitVec.toInt_lt (x := u)
  have hv := BitVec.le_toInt v
  rw [BitVec.toInt_sub, Int.bmod_def] at hspan ⊢
  rw [BitVec.toInt_sub, Int.bmod_def]
  omega

/-- Among some windows' openings and one more, that hold a count, one is the latest. -/
theorem exists_latest {x m0 : Count} (l : List Count) (hm0 : 0 ≤ signedDiff x m0) (hl : ∀ o ∈ l, 0 ≤ signedDiff x o) :
    ∃ m ∈ m0 :: l, 0 ≤ signedDiff x m ∧ signedDiff x m ≤ signedDiff x m0 ∧ ∀ o ∈ l, signedDiff x m ≤ signedDiff x o := by
  induction l with
  | nil => exact ⟨m0, List.mem_singleton_self _, hm0, le_rfl, nofun⟩
  | cons o os ih =>
    obtain ⟨ho, hos⟩ := List.forall_mem_cons.1 hl
    obtain ⟨m, hmem, hm, hle, hall⟩ := ih hos
    obtain hlt | hge := le_total (signedDiff x m) (signedDiff x o)
    · refine ⟨m, ?_, hm, hle, List.forall_mem_cons.2 ⟨hlt, hall⟩⟩
      obtain rfl | hmem := List.mem_cons.1 hmem
      · exact List.mem_cons_self
      · exact List.mem_cons_of_mem _ (List.mem_cons_of_mem _ hmem)
    · exact ⟨o, by simp, ho, hge.trans hle, List.forall_mem_cons.2 ⟨le_rfl, fun u hu => hge.trans (hall u hu)⟩⟩

/-- Where the peak load of a new window fits, the load at every count does: the load rises only at openings, and every opening
within the window was examined (R157). -/
theorem loadAt_admitted {es : List Entry} {e : Entry} {w : Window} {n : Nat} {later : Entry → Bool}
    (hload : ∀ x, loadAt es 0 x ≤ n) (hspans : ∀ o ∈ es, 0 ≤ signedDiff o.closeCount o.openCount)
    (hopen : e.openCount = w.openCount) (hclose : e.closeCount = w.closeCount) (hreserved : e.state = .reserved)
    (hspan : 0 ≤ signedDiff w.closeCount w.openCount) (hpeak : peakLoad es w e.valves ≤ n) (x : Count) :
    loadAt (insertBefore later e es) 0 x ≤ n := by
  have hset : loadSet e = e.valves := by simp [loadSet, hreserved]
  by_cases hx : windowHolds w.openCount w.closeCount x = true
  case neg =>
    refine (valveCount_mono fun v hv => getLsbD_loadedAt.2 ?_).trans (hload x)
    obtain hv | ⟨f, hf, hfx, hv⟩ := getLsbD_loadedAt.1 hv
    · exact .inl hv
    · obtain rfl | hf := mem_insertBefore.1 hf
      · rw [hopen, hclose] at hfx
        exact absurd hfx hx
      · exact .inr ⟨f, hf, hfx, hv⟩
  case pos =>
    let holders := es.filter fun o => windowHolds o.openCount o.closeCount x
    obtain ⟨m, hmem, hm, hw, hall⟩ := exists_latest (holders.map (·.openCount)) (windowHolds_iff.1 hx).1 fun o ho => by
      obtain ⟨f, hf, rfl⟩ := List.mem_map.1 ho
      exact (windowHolds_iff.1 (by simpa using (List.mem_filter.1 hf).2)).1
    have hatm : loadAt es e.valves m ≤ n := by
      obtain ⟨hfirst, hmarks⟩ := peakLoad_le_iff.1 hpeak
      obtain rfl | hmem := List.mem_cons.1 hmem
      · exact hfirst
      · obtain ⟨f, hf, rfl⟩ := List.mem_map.1 hmem
        exact hmarks f (List.mem_of_mem_filter hf) (windowHolds_later hspan hx hm hw)
    refine (valveCount_mono fun v hv => getLsbD_loadedAt.2 ?_).trans hatm
    obtain hzero | ⟨f, hf, hfx, hfv⟩ := getLsbD_loadedAt.1 hv
    · simp at hzero
    · obtain rfl | hf := mem_insertBefore.1 hf
      · exact .inl (by rwa [hset] at hfv)
      · refine .inr ⟨f, hf, windowHolds_later (hspans f hf) hfx hm ?_, hfv⟩
        exact hall _ (List.mem_map.2 ⟨f, List.mem_filter.2 ⟨hf, by simpa using hfx⟩, rfl⟩)

/-! #### The law of the plenum -/

theorem PlenumLawful.of_departs {s t : State} (hs : PlenumLawful s) (h : Departs s t) : PlenumLawful t where
  load x := by
    rw [h.prof]
    exact (loadAt_mono h.entries 0 x).trans (hs.load x)
  spans e he := by
    obtain ⟨o, ho, hoe⟩ := h.entries e he
    rw [hoe.openCount, hoe.closeCount]
    exact hs.spans o ho
  atWork hne := by
    rw [h.working]
    refine hs.atWork fun hnil => ?_
    obtain ⟨e, he⟩ := List.exists_mem_of_ne_nil _ hne
    obtain ⟨o, ho, -⟩ := h.entries e he
    rw [hnil] at ho
    cases ho
  figures := by rw [h.windowList]; exact hs.figures
  speed := by rw [h.speed]; exact hs.speed
  times := by rw [h.prof]; exact hs.times

/-- A schedule without entries is lawful where the figures are in their ranges. -/
theorem plenumLawful_of_empty {s : State} (h : s.sched.entries = []) (hw : ∀ i : Fin 4, s.belt.windowList[i] ≤ 4095)
    (hv : s.belt.speed ≤ 4095) (ht : (prof s).minOnTime ≤ 100 ∧ (prof s).maxOnTime ≤ 2000) : PlenumLawful s where
  load x := by rw [h, loadAt_eq_zero_of_nil]; exact Nat.zero_le _
  spans e he := by rw [h] at he; cases he
  atWork hne := absurd h hne
  figures := hw
  speed := hv
  times := ht

/-- A profile that passed the checks has its on-times in their ranges (R192, fields 31 and 32). -/
theorem times_of_loaded {a : List Byte} (h : profileOffence a = none) :
    (profileOf a).minOnTime ≤ 100 ∧ (profileOf a).maxOnTime ≤ 2000 := by
  simp only [profileOffence, Option.map_eq_none_iff, List.find?_eq_none] at h
  have hmin : fieldCheck 31 (within 5 100 (u8 a 161)) ∈ profileChecks a := by simp [profileChecks]
  have hmax : fieldCheck 32 (within 50 2000 (u16 a 162) && u8 a 161 < u16 a 162) ∈ profileChecks a := by
    simp [profileChecks]
  have h31 := h _ hmin
  have h32 := h _ hmax
  simp only [fieldCheck, within, Bool.not_eq_true', Bool.and_eq_true, decide_eq_true_eq,
    Bool.not_eq_false] at h31 h32
  exact ⟨h31.2, h32.1.2⟩

theorem Admitted.span {s : State} {w : Window} {d : Count} {length : Nat} {c : ClassCode} (hs : PlenumLawful s)
    (hw : w = windowOf (prof s) s.belt.speed d length c) : 0 ≤ signedDiff w.closeCount w.openCount := by
  have hmin := tenths_le hs.times.1 hs.speed
  have hmax := tenths_le hs.times.2 hs.speed
  rw [hw, windowOf_span _ _ _ _ _ (by unfold tenthsUp; omega) (by unfold tenthsDown; omega)]
  omega

theorem Move.plenumLawful {s t : State} (h : Move s t) (hs : PlenumLawful s) : PlenumLawful t := by
  cases h with
  | depart h => exact hs.of_departs h
  | supply new h =>
    exact PlenumLawful.of_departs (s := { s with air.supply := new })
      ⟨hs.load, hs.spans, hs.atWork, hs.figures, hs.speed, hs.times⟩ h
  | admits e later guard h =>
    obtain ⟨hreserved, ⟨w, d, length, c, hw, hopen, hclose, hpeak⟩, hwork⟩ := guard
    have hspan := Admitted.span hs hw
    refine PlenumLawful.of_departs (s := { s with sched.entries := insertBefore later e s.sched.entries })
      ⟨loadAt_admitted hs.load hs.spans hopen hclose hreserved hspan hpeak, fun x hx => ?_, fun _ => hwork, hs.figures,
        hs.speed, hs.times⟩ h
    obtain rfl | hx := mem_insertBefore.1 hx
    · rwa [hopen, hclose]
    · exact hs.spans x hx
  | opens base tracks origin =>
    have hprof : prof t = prof s := congrArg (fun b : Base => b.profile.getD Profile.blank) base
    have hfrom (e : Entry) (he : e ∈ t.sched.entries) : ∃ o ∈ s.sched.entries,
        e.openCount = o.openCount ∧ e.closeCount = o.closeCount ∧ Within (loadSet e) (loadSet o) := by
      obtain ⟨o, ho, h | h⟩ := origin e he
      · exact ⟨o, ho, h.openCount, h.closeCount, h.load⟩
      · exact ⟨o, ho, h.openCount, h.closeCount, h.load⟩
    refine ⟨fun x => ?_, fun e he => ?_, fun hne => ?_, ?_, ?_, hprof ▸ hs.times⟩
    · rw [hprof]
      exact (loadAt_le hfrom x).trans (hs.load x)
    · obtain ⟨o, ho, hopen, hclose, -⟩ := hfrom e he
      rw [hopen, hclose]
      exact hs.spans o ho
    · rw [working_of_station (congrArg Base.station base)]
      obtain ⟨e, he⟩ := List.exists_mem_of_ne_nil _ hne
      obtain ⟨o, ho, -⟩ := hfrom e he
      exact hs.atWork (List.ne_nil_of_mem ho)
    · rw [show t.belt.windowList = s.belt.windowList from congrArg Base.windowList base]
      exact hs.figures
    · rw [show t.belt.speed = s.belt.speed from congrArg Base.speed base]
      exact hs.speed
  | merge _ _ _ _ h => rw [h]; exact ⟨hs.load, hs.spans, hs.atWork, hs.figures, hs.speed, hs.times⟩
  | window l x guard h =>
    obtain ⟨hl, hx⟩ := guard hs.figures hs.speed
    exact PlenumLawful.of_departs (s := { s with belt.windowList := l, belt.speed := x })
      ⟨hs.load, hs.spans, hs.atWork, hl, hx, hs.times⟩ h
  | link l f _ h =>
    exact PlenumLawful.of_departs (s := { s with link.state := l, link.frame := f })
      ⟨hs.load, hs.spans, hs.atWork, hs.figures, hs.speed, hs.times⟩ h
  | map m _ h =>
    have hcut (e : Entry) (he : e ∈ (installMap m s).sched.entries) : ∃ o ∈ s.sched.entries, EntryFrom o e := by
      obtain ⟨o, ho, rfl⟩ := List.mem_map.1 he
      exact ⟨o, ho, cutDrive_from _ o⟩
    refine PlenumLawful.of_departs (s := installMap m s)
      ⟨fun x => (loadAt_mono hcut 0 x).trans (hs.load x), fun e he => ?_, fun hne => hs.atWork fun hnil => ?_, hs.figures,
        hs.speed, hs.times⟩ h
    · obtain ⟨o, ho, hoe⟩ := hcut e he
      rw [hoe.openCount, hoe.closeCount]
      exact hs.spans o ho
    · exact hne (by simp [installMap, hnil])
  | station x guard h =>
    refine ⟨fun y => ?_, fun e he => ?_, fun hne => guard.resolve_right hne, ?_, ?_, ?_⟩
    · rw [h.prof]
      exact (loadAt_mono h.entries 0 y).trans (hs.load y)
    · obtain ⟨o, ho, hoe⟩ := h.entries e he
      rw [hoe.openCount, hoe.closeCount]
      exact hs.spans o ho
    · rw [h.windowList]; exact hs.figures
    · rw [h.speed]; exact hs.speed
    · rw [h.prof]; exact hs.times
  | profile a idle checked h =>
    have hempty : s.sched.entries = [] := by
      by_contra hne
      exact absurd (hs.atWork hne) (by simp [idle])
    exact PlenumLawful.of_departs (s := { s with port.profile := some (profileOf a), port.station := .ready })
      (plenumLawful_of_empty hempty hs.figures hs.speed (times_of_loaded checked)) h
  | reset h => rw [h]; exact plenumLawful_of_empty rfl hs.figures hs.speed hs.times

theorem Places.plenumLawful {s t : State} (h : Places s t) (hs : PlenumLawful s) : PlenumLawful t := by
  cases h with
  | fresh _ a b x room kept _ _ _ h =>
    have hb : PlenumLawful b := (hs.of_departs (roomForTrack_departs room)).of_departs kept
    exact PlenumLawful.of_departs (s := { b with
      engine.tracks := placeTrack x b.engine.tracks, engine.nextKey := b.engine.nextKey + 1 })
      ⟨hb.load, hb.spans, hb.atWork, hb.figures, hb.speed, hb.times⟩ h
  | moved o x m _ h =>
    exact PlenumLawful.of_departs (s := { s with
      engine.tracks := placeTrack (movedTrack x m o) (s.engine.tracks.filter fun u => u.key ≠ o.key) })
      ⟨hs.load, hs.spans, hs.atWork, hs.figures, hs.speed, hs.times⟩ h

theorem rolled_plenumLawful (c : Instr) (s : State) (hs : PlenumLawful s) : PlenumLawful (rolled c s) := by
  unfold rolled
  split
  · exact ⟨hs.load, hs.spans, hs.atWork, hs.figures, hs.speed, hs.times⟩
  · have hbelt : (stepReverse s.belt).windowList = s.belt.windowList ∧ (stepReverse s.belt).speed = s.belt.speed := by
      unfold stepReverse; split <;> exact ⟨rfl, rfl⟩
    refine ⟨hs.load, hs.spans, hs.atWork, ?_, ?_, hs.times⟩
    · dsimp only; rw [hbelt.1]; exact hs.figures
    · dsimp only; rw [hbelt.2]; exact hs.speed
  · exact hs

theorem powerOn_plenumLawful (s : State) : PlenumLawful (powerOn s) :=
  plenumLawful_of_empty rfl (fun i => by simp [powerOn, State.reset, Belt.reset]) (Nat.zero_le 4095)
    ⟨Nat.zero_le 100, Nat.zero_le 2000⟩

theorem plenumLawful_keptByEveryStep : KeptByEveryStep PlenumLawful :=
  keptByEveryStep_of_moves (fun _ _ h => h.plenumLawful) (fun _ _ h => h.plenumLawful) rolled_plenumLawful
    powerOn_plenumLawful

/-! #### The last peak and the drive -/

theorem lastPeak_of_admission {t : Track} {c : ClassCode} {w : Window} {vs : ValveSet} {s u : State} {o : Count}
    (h : admission t c w vs s = (u, .admitted o)) : u.sched.lastPeak ≤ (prof s).plenumLimit := by
  unfold admission at h
  dsimp only at h
  split at h
  · cases h
  · rename_i hfits
    have hadmit (e : Entry) (a : State) : (admitEntry e a).sched.lastPeak = a.sched.lastPeak := by
      unfold admitEntry; split <;> rfl
    cases h
    rw [hadmit]
    exact peakLoad_displaced (not_lt.1 hfits)

theorem lastPeak_of_requestEntry {t : Track} {c : ClassCode} {s u : State} {o : Count}
    (h : requestEntry t c s = (u, .admitted o)) : u.sched.lastPeak ≤ (prof s).plenumLimit := by
  unfold requestEntry at h
  dsimp only at h
  split at h
  · cases h
  split at h
  · cases h
  split at h
  · cases h
  split at h
  · cases h
  split at h
  · cases h
  · rw [← prof_of_spine (supplyRequested_spine s)]
    exact lastPeak_of_admission h

theorem getLsbD_driveOf {s : State} {v : Nat} :
    (driveOf s).getLsbD v = true ↔ ∃ e ∈ s.sched.entries, e.state = .opened ∧ e.drive.getLsbD v = true := by
  unfold driveOf
  have h := getLsbD_foldl_union (fun e : Entry => decide (e.state = .opened)) (fun e => e.drive) s.sched.entries 0 v
  simp only [decide_eq_true_eq] at h
  rw [h]
  simp

/-- While every OPEN entry's window holds the present count, what is driven is part of the load there. -/
theorem valveCount_driveOf_le {s : State} (hs : PlenumLawful s)
    (h : ∀ e ∈ s.sched.entries, e.state = .opened → windowHolds e.openCount e.closeCount s.belt.count = true) :
    valveCount (driveOf s) ≤ (prof s).plenumLimit := by
  refine (valveCount_mono fun v hv => ?_).trans (hs.load s.belt.count)
  obtain ⟨e, he, hopen, hdrive⟩ := getLsbD_driveOf.1 hv
  exact getLsbD_loadedAt.2 (.inr ⟨e, he, h e he hopen, by rwa [loadSet, if_pos hopen]⟩)

/-- Settles O17: displacement leaves the admitted peak within the limit, every later opening lies in no window that was not
examined, and the driven valves are part of the load at the present count. -/
theorem loadStaysWithinThePlenumLimit : Obligations.LoadStaysWithinThePlenumLimit := by
  refine ⟨fun s t u c o h => lastPeak_of_requestEntry h, plenumLawful_keptByEveryStep, fun s t hs hstep hopen => ?_⟩
  exact valveCount_driveOf_le (plenumLawful_keptByEveryStep s t hs hstep) fun e he ho => windowHolds_iff.2 (hopen e he ho)

end Sys2Proof.Machine
end

/-! ### The bar in step with the schedule and the supply (R163) -/

section
namespace Sys2Proof.Machine

set_option Elab.async false

/-- Two states with the same bar and with what its drive and pilot depend on. -/
structure SameBar (t s : State) : Prop where
  bar : t.bar = s.bar := by rfl
  entries : t.sched.entries = s.sched.entries := by rfl
  supply : t.air.supply = s.air.supply := by rfl

theorem SameBar.refl (s : State) : SameBar s s := {}

theorem SameBar.trans {a b c : State} (h : SameBar a b) (k : SameBar b c) : SameBar a c :=
  ⟨h.bar.trans k.bar, h.entries.trans k.entries, h.supply.trans k.supply⟩

theorem SameBar.inStep {t s : State} (h : SameBar t s) (hs : BarInStep s) : BarInStep t :=
  inStep_congr h.bar h.entries h.supply hs

theorem bar_of_spine {s t : State} (h : spine t = spine s) : t.bar = s.bar := by
  have hs := congrArg (fun a : State => a.bar) h
  exact hs

theorem SameDrive.sameBar {t s : State} (h : SameDrive t s) (k : spine t = spine s) : SameBar t s :=
  ⟨bar_of_spine k, h.1, h.2⟩

theorem stationReset_inStep (s : State) : BarInStep (stationReset s) := by
  have h (b : Bar) : (sendClosed b).drive = 0 ∧ (sendClosed b).pilot = false := by
    unfold sendClosed; split <;> exact ⟨rfl, rfl⟩
  exact ⟨(h s.bar).1, (h s.bar).2⟩

theorem nextTransfer_inStep {s : State} (h : BarInStep s) : BarInStep (nextTransfer s) := by
  unfold nextTransfer
  split <;> exact h

/-! #### Commands that end without a change of the bar -/

theorem modeAtStrobe_sameBar (s : State) : SameBar (modeAtStrobe s) s := by
  unfold modeAtStrobe
  dsimp only
  repeat' split
  all_goals exact {}

theorem strobeIfDue_sameBar (s : State) : SameBar (strobeIfDue s) s := by
  unfold strobeIfDue
  split
  · exact (modeAtStrobe_sameBar _).trans {}
  · exact .refl s

theorem takeRecord_sameBar (b : List Byte) (p : Bool) (s : State) : SameBar (takeRecord b p s) s := by
  unfold takeRecord queueRecord joinIntake modeToQuick
  dsimp only
  repeat' split
  all_goals exact {}

theorem retireOrHold_sameBar (t : Track) (s : State) : SameBar (retireOrHold t s) s := by
  unfold retireOrHold
  split <;> exact {}

theorem addHeartbeat_sameBar (s : State) : SameBar (addHeartbeat s) s := by
  unfold addHeartbeat
  split
  · exact {}
  · rename_i u k hk
    have h : SameBar u s := (slotAdd_sameDrive hk).sameBar (slotAdd_spine hk)
    exact SameBar.trans (b := u) {} h

theorem superviseSlot_sameBar (n : Node) (d : Nat) (s : State) : SameBar (superviseSlot n d s) s := by
  unfold superviseSlot flagPeerChange
  dsimp only
  repeat' split
  all_goals exact {}

theorem takeConfirm_sameBar (id : PieceId) (res : ConfirmResult) (s : State) : SameBar (takeConfirm id res s) s :=
  ⟨by simp, by simp, by simp⟩

theorem requestConfirm_sameBar (id : PieceId) (res : ConfirmResult) (s : State) : SameBar (requestConfirm id res s) s := by
  have hcount : SameBar (countConfirm res s) s := by cases res <;> exact {}
  unfold requestConfirm
  exact SameBar.trans (SameDrive.sameBar (addNotice_sameDrive _ _ countConfirmUnsent (fun _ => ⟨rfl, rfl⟩) _)
    (addNotice_spine _ _ countConfirmUnsent (fun _ => rfl) _)) hcount

theorem takeArrival_sameBar (a : Arrival) (s : State) : SameBar (takeArrival a s) s := by
  unfold takeArrival holdArrival
  dsimp only
  split
  · exact {}
  split
  · exact (requestConfirm_sameBar _ _ _).trans {}
  · split <;> exact {}

theorem countReceiveError_sameBar (s : State) : SameBar (countReceiveError s) s := by
  unfold countReceiveError
  split <;> exact {}

/-! #### The station port -/

theorem carryOut_inStep {effect : State → State} {data : State → List Byte} {s : State} (h : BarInStep (effect s)) :
    BarInStep (carryOut effect data s) :=
  SameBar.inStep (s := effect s) {} h

theorem judge_inStep {accepted lengthOk : Bool} {run : State → State} {s : State} (hs : BarInStep s)
    (h : BarInStep (run s)) : BarInStep (judge accepted lengthOk run s) := by
  unfold judge
  split
  · exact hs
  split
  · exact hs
  · exact h

theorem taken_inStep {run : State → State} {s : State} (hs : BarInStep s) (h : ∀ a, BarInStep a → BarInStep (run a)) :
    BarInStep (taken run s) := by
  unfold taken transaction
  split
  · exact hs
  · split
    · exact h _ (stationReset_inStep s)
    · exact h s hs

theorem loadChecked_inStep (arg : List Byte) {s : State} (hs : BarInStep s) : BarInStep (loadChecked arg s) := by
  unfold loadChecked
  split
  · exact hs
  · exact carryOut_inStep (SameBar.inStep (s := s) {} hs)

theorem editChecked_inStep (arg : List Byte) {s : State} (hs : BarInStep s) : BarInStep (editChecked arg s) := by
  unfold editChecked
  split
  · exact hs
  split
  · rename_i u f heq
    have hu : SameBar u s := by
      unfold applyEdit at heq
      split at heq <;> cases heq
      exact {}
    exact SameBar.inStep (s := u) {} (hu.inStep hs)
  · rename_i u _
    exact SameBar.inStep (s := syncBar u) {} (syncBar_inStep u)

/-! #### Every command -/

/-- A command leaves the bar in step: it synchronises it last, resets it, or touches nothing that it depends on. -/
theorem exec_inStep {c : Instr} {s t : State} (hs : BarInStep s) (h : exec c s = .next t) : BarInStep t := by
  cases c with
  | encoderEdge edge =>
    change execEncoderEdge edge s = _ at h
    unfold execEncoderEdge at h
    cases edge <;> dsimp only at h <;> cases h
    · exact hs
    · split
      · exact syncBar_inStep _
      · exact hs
    · exact hs
  | speedWindowEnd =>
    change execSpeedWindowEnd s = _ at h
    unfold execSpeedWindowEnd at h
    split at h <;> cases h
    · exact hs
    · exact syncBar_inStep _
  | scanStrobe => cases h; exact (strobeIfDue_sameBar s).inStep hs
  | strobeWordEnd =>
    change execStrobeWordEnd s = _ at h
    unfold execStrobeWordEnd at h
    split at h <;> cases h
    · exact hs
    · exact (strobeIfDue_sameBar _).inStep hs
  | recordComplete bytes ending =>
    change execRecordComplete bytes ending s = _ at h
    unfold execRecordComplete completeRecord at h
    split at h <;> cases h
    · exact hs
    · dsimp only
      split
      · exact (takeRecord_sameBar _ _ _).inStep hs
      · exact (takeRecord_sameBar _ _ _).inStep hs
      · exact hs
  | detectionEntryTaken =>
    change execDetectionEntryTaken s = _ at h
    unfold execDetectionEntryTaken at h
    split at h <;> cases h
    · exact hs
    · exact syncBar_inStep _
  | pieceEntryTaken =>
    change execPieceEntryTaken s = _ at h
    unfold execPieceEntryTaken at h
    split at h
    · cases h; exact hs
    dsimp only at h
    split at h
    · cases h; exact hs
    split at h <;> cases h
    · exact syncBar_inStep _
    all_goals exact hs
  | decisionPointReached id =>
    change execDecisionPointReached id s = _ at h
    unfold execDecisionPointReached at h
    repeat' split at h
    all_goals cases h
    · exact hs
    · exact syncBar_inStep _
    · exact hs
  | retirementCountReached id =>
    change execRetirementCountReached id s = _ at h
    unfold execRetirementCountReached at h
    repeat' split at h
    all_goals cases h
    · exact hs
    · exact (retireOrHold_sameBar _ s).inStep hs
    · exact hs
  | startOfFrame run =>
    change execStartOfFrame run s = _ at h
    unfold execStartOfFrame at h
    repeat' split at h
    all_goals cases h
    all_goals exact hs
  | requiredCountLowered run =>
    change execRequiredCountLowered run s = _ at h
    unfold execRequiredCountLowered at h
    split at h <;> cases h <;> exact hs
  | slotStart run =>
    change execSlotStart run s = _ at h
    unfold execSlotStart at h
    dsimp only at h
    repeat' split at h
    all_goals cases h
    all_goals exact hs
  | arbitrationLost =>
    change execArbitrationLost s = _ at h
    unfold execArbitrationLost at h
    repeat' split at h
    all_goals cases h
    · exact hs
    · exact syncBar_inStep _
    · exact hs
  | bitError =>
    change execBitError s = _ at h
    unfold execBitError at h
    split at h
    · cases h; exact hs
    split at h <;> cases h
    · exact syncBar_inStep _
    · exact hs
  | sendSuccess =>
    change execSendSuccess s = _ at h
    unfold execSendSuccess at h
    split at h
    · cases h; exact hs
    split at h <;> cases h
    · exact syncBar_inStep _
    · exact hs
  | frameReceived bytes =>
    change execFrameReceived bytes s = _ at h
    unfold execFrameReceived at h
    split at h <;> cases h
    · exact syncBar_inStep _
    · exact hs
  | frameDiscarded cause run =>
    change execFrameDiscarded cause run s = _ at h
    unfold execFrameDiscarded at h
    split at h <;> cases h
    · exact SameBar.inStep (SameBar.trans (b := countReceiveError s) {} (countReceiveError_sameBar s)) hs
    · exact hs
  | listeningTimerEnd =>
    change execListeningTimerEnd s = _ at h
    unfold execListeningTimerEnd at h
    split at h <;> cases h
    · exact (addHeartbeat_sameBar _).inStep hs
    · exact hs
  | heartbeatTimerExpiry =>
    change execHeartbeatTimerExpiry s = _ at h
    unfold execHeartbeatTimerExpiry at h
    split at h <;> cases h
    · exact hs
    · exact syncBar_inStep _
  | supervisionDeadline node =>
    change execSupervisionDeadline node s = _ at h
    unfold execSupervisionDeadline at h
    repeat' split at h
    all_goals cases h
    · exact hs
    · exact hs
    · exact (superviseSlot_sameBar _ _ _).inStep hs
  | slotDeadlineStale place =>
    change execSlotDeadlineStale place s = _ at h
    unfold execSlotDeadlineStale at h
    repeat' split at h
    all_goals cases h
    · exact hs
    · exact syncBar_inStep _
    · exact hs
    · exact hs
  | claimEntryTaken =>
    change execClaimEntryTaken s = _ at h
    unfold execClaimEntryTaken at h
    split at h
    · cases h; exact hs
    split at h <;> cases h
    · exact syncBar_inStep _
    all_goals exact hs
  | releaseEntryTaken =>
    change execReleaseEntryTaken s = _ at h
    unfold execReleaseEntryTaken at h
    split at h
    · cases h; exact hs
    split at h <;> cases h
    · exact syncBar_inStep _
    all_goals exact hs
  | firedEntryTaken =>
    change execFiredEntryTaken s = _ at h
    unfold execFiredEntryTaken at h
    split at h
    · cases h; exact hs
    split at h <;> cases h
    · exact syncBar_inStep _
    all_goals exact hs
  | openCountReached id =>
    change execOpenCountReached id s = _ at h
    unfold execOpenCountReached at h
    split at h
    · cases h; exact hs
    split at h
    · split at h <;> cases h
      · exact syncBar_inStep _
      · exact syncBar_inStep _
      · exact hs
    · cases h; exact hs
  | closeCountReached id =>
    change execCloseCountReached id s = _ at h
    unfold execCloseCountReached at h
    repeat' split at h
    all_goals cases h
    · exact hs
    · exact syncBar_inStep _
    · exact hs
  | guardExpiry id =>
    change execGuardExpiry id s = _ at h
    unfold execGuardExpiry at h
    repeat' split at h
    all_goals cases h
    · exact hs
    · exact syncBar_inStep _
    · exact hs
  | transferComplete returned =>
    change execTransferComplete returned s = _ at h
    unfold execTransferComplete at h
    split at h <;> cases h
    · exact hs
    · exact nextTransfer_inStep (syncBar_inStep _)
  | pressureOkActive =>
    change execPressureOkActive s = _ at h
    unfold execPressureOkActive at h
    dsimp only at h
    split at h <;> cases h
    · exact syncBar_inStep _
    · exact hs
  | pressureOkInactive =>
    change execPressureOkInactive s = _ at h
    unfold execPressureOkInactive at h
    dsimp only at h
    split at h <;> cases h
    · exact syncBar_inStep _
    · exact hs
  | chargeTimerExpiry =>
    change execChargeTimerExpiry s = _ at h
    unfold execChargeTimerExpiry at h
    split at h <;> cases h
    · exact syncBar_inStep _
    · exact hs
  | standbyTimerExpiry =>
    change execStandbyTimerExpiry s = _ at h
    unfold execStandbyTimerExpiry at h
    repeat' split at h
    all_goals cases h
    · exact hs
    · exact syncBar_inStep _
    · exact hs
  | confirmEntryTaken =>
    change execConfirmEntryTaken s = _ at h
    unfold execConfirmEntryTaken at h
    split at h
    · cases h; exact hs
    dsimp only at h
    split at h <;> cases h
    · exact (takeConfirm_sameBar _ _ _).inStep hs
    all_goals exact hs
  | arrivalEntryTaken =>
    change execArrivalEntryTaken s = _ at h
    unfold execArrivalEntryTaken at h
    repeat' split at h
    all_goals cases h
    · exact (takeArrival_sameBar _ _).inStep hs
    all_goals exact hs
  | expectationExpiry id =>
    change execExpectationExpiry id s = _ at h
    unfold execExpectationExpiry at h
    repeat' split at h
    all_goals cases h
    · exact hs
    · exact (requestConfirm_sameBar _ _ _).inStep hs
    · exact hs
  | heldArrivalLeave =>
    change execHeldArrivalLeave s = _ at h
    unfold execHeldArrivalLeave at h
    repeat' split at h
    all_goals cases h
    all_goals exact hs
  | haltingEnd =>
    change execHaltingEnd s = _ at h
    unfold execHaltingEnd at h
    split at h <;> cases h
    · exact syncBar_inStep _
    · exact hs
  | stationReset cause =>
    change execStationReset cause s = _ at h
    unfold execStationReset at h
    split at h <;> split at h <;> cases h
    · exact hs
    · exact stationReset_inStep s
    · exact hs
    · exact hs
    · exact stationReset_inStep s
    · exact hs
  | powerOnReset => cases h; exact ⟨rfl, rfl⟩
  | badCommandCode code arg =>
    change execBadCommandCode code arg s = _ at h
    unfold execBadCommandCode at h
    split at h <;> cases h
    · exact taken_inStep hs fun _ => id
    · exact hs
  | portTransactionAbandoned => cases h; exact taken_inStep hs fun _ => id
  | loadProfile arg => cases h; exact taken_inStep hs fun _ ha => judge_inStep ha (loadChecked_inStep arg ha)
  | start arg | halt arg =>
    cases h; exact taken_inStep hs fun _ ha => judge_inStep ha (carryOut_inStep (syncBar_inStep _))
  | editValveMap arg => cases h; exact taken_inStep hs fun _ ha => judge_inStep ha (editChecked_inStep arg ha)
  | removeOutcomes arg => cases h; exact taken_inStep hs fun _ ha => judge_inStep ha ha
  | resumeLink arg | clearEvents arg | setEventMask arg | reset arg | readValveMap arg | readStatus arg | readPeers arg
    | readOutcomes arg =>
    cases h; exact taken_inStep hs fun _ ha => judge_inStep ha (carryOut_inStep ha)

/-- Settles O40: no command leaves the drive or the pilot behind a change of the schedule or the supply. -/
theorem barFollowsTheScheduleAndTheSupply : Obligations.BarFollowsTheScheduleAndTheSupply := by
  intro s t hs hstep
  unfold step at hstep
  split at hstep
  · cases hstep; exact hs
  · exact exec_inStep (SameBar.inStep (s := s) {} hs) hstep

end Sys2Proof.Machine
end

/-! ### Steps, and the state after power-on reset -/

section
namespace Sys2Proof.Machine

set_option Elab.async false

/-- Settles O1: a step takes the front command and carries it out on the rest of the queue. -/
theorem stepCarriesOutTheFrontCommand : Obligations.StepCarriesOutTheFrontCommand := fun _ _ => rfl

/-- Settles O2: every branch of every command's meaning is a next state. -/
theorem everyCommandAnswersANextState : Obligations.EveryCommandAnswersANextState := by
  intro c s
  cases c
  all_goals
    simp only [exec, execEncoderEdge, execSpeedWindowEnd, execScanStrobe, execStrobeWordEnd, execRecordComplete,
      execDetectionEntryTaken, execPieceEntryTaken, execDecisionPointReached, execRetirementCountReached, execStartOfFrame,
      execRequiredCountLowered, execSlotStart, execArbitrationLost, execBitError, execSendSuccess, execFrameReceived,
      execFrameDiscarded, execListeningTimerEnd, execHeartbeatTimerExpiry, execSupervisionDeadline, execSlotDeadlineStale,
      execClaimEntryTaken, execReleaseEntryTaken, execFiredEntryTaken, execOpenCountReached, execCloseCountReached,
      execGuardExpiry, execTransferComplete, execPressureOkActive, execPressureOkInactive, execChargeTimerExpiry,
      execStandbyTimerExpiry, execConfirmEntryTaken, execArrivalEntryTaken, execExpectationExpiry, execHeldArrivalLeave,
      execHaltingEnd, execLoadProfile, execStart, execHalt, execResumeLink, execEditValveMap, execReadValveMap,
      execReadStatus, execReadPeers, execReadOutcomes, execRemoveOutcomes, execClearEvents, execSetEventMask, execReset,
      execBadCommandCode, execPortTransactionAbandoned, execStationReset, execPowerOnReset, Host.Outcome.next.injEq]
    repeat' first | exact ⟨_, rfl⟩ | split

/-- Settles O60: after power-on reset the table, the schedule and the queues are empty and the bar is closed. -/
theorem resetStateMeetsTheInvariants : Obligations.ResetStateMeetsTheInvariants := by
  have hpower : powerOn State.reset = State.reset := rfl
  have hmap := powerOn_mapLawful State.reset
  have hplenum := powerOn_plenumLawful State.reset
  rw [hpower] at hmap hplenum
  have hdriving : driving State.reset = false := by decide
  refine ⟨⟨rfl, rfl⟩, fun _ h => (List.not_mem_nil h).elim, fun _ h => (List.not_mem_nil h).elim, hmap, ?_, emptyTable_lawful rfl, List.Pairwise.nil,
    hplenum, fun h => absurd h (by rw [hdriving]; exact Bool.false_ne_true)⟩
  exact
    { ring := Nat.zero_le _
      intake := Nat.zero_le _
      tracks := Nat.zero_le _
      slots := Nat.zero_le _
      general := Nat.zero_le _
      urgent := Nat.zero_le _
      dropNotices := Nat.zero_le _
      entries := Nat.zero_le _
      recent := Nat.zero_le _
      expectations := Nat.zero_le _
      held := Nat.zero_le _
      outcomes := Nat.zero_le _
      contributors := fun _ h => (List.not_mem_nil h).elim
      acceptance := Nat.zero_le _ }

end Sys2Proof.Machine
end

/-! ### Capacities, in a table whose records share a name (R32, R46, R61) -/

section
namespace Sys2Proof.Machine

set_option Elab.async false

/-- A track of node 1 with key 0, whatever its sequence number. -/
def twinTrack (seq : Fin 4096) (who : List (Node × SourceKind)) : Track :=
  { newTrack 0 ⟨1, seq⟩ ⟨0, 1, 0, 0⟩ none false false with contributors := who }

/-- Two tracks under one key, the second with a full contributor list, and a PIECE that names the first. -/
def twinState : State :=
  { State.reset with
    port.station := .running
    port.profile := some { Profile.blank with sense := true, horizon := 1000 }
    engine.turn := .general
    engine.tracks := [twinTrack 1 [], twinTrack 2 (List.replicate 6 (2, 0))]
    accept.general := [⟨.piece 0 ⟨⟨1, 1⟩, 1, 0, 0, 0, .full, false, []⟩, 3, 0, false⟩]
    pending := [.pieceEntryTaken] }

/-- The lengths of the contributor lists after a step. -/
def contributorsAfter (s : State) : List Nat :=
  match step s with
  | .next t => t.engine.tracks.map (·.contributors.length)
  | .fault _ | .refused _ => []

theorem twinState_withinCapacity : WithinCapacity twinState := by
  constructor <;> decide

theorem contributorsAfter_twinState : contributorsAfter twinState = [1, 7] := by decide

/-- Refutes O58: the capacities alone do not say that keys are distinct, and a contribution accepted for a key goes to every track
of it, so in `twinState` a list of six grows to seven. -/
theorem not_capacitiesAreNeverExceeded : ¬ Obligations.CapacitiesAreNeverExceeded := by
  intro h
  obtain ⟨t, ht⟩ := everyCommandAnswersANextState .pieceEntryTaken { twinState with pending := [] }
  have hstep : step twinState = .next t := ht
  have hlengths := contributorsAfter_twinState
  simp only [contributorsAfter, hstep] at hlengths
  have hseven : 7 ∈ t.engine.tracks.map (·.contributors.length) := by simp [hlengths]
  obtain ⟨u, hu, hlen⟩ := List.mem_map.1 hseven
  have hsix : u.contributors.length ≤ 6 := (h twinState t twinState_withinCapacity hstep).contributors u hu
  omega

end Sys2Proof.Machine
end

/-! ### Which flags the shared operations set: OUTCOME_LOST alone (R195, R197) -/

section
namespace Sys2Proof.Machine

set_option Elab.async false

/-- The event flags but OUTCOME_LOST, which every record put in a full queue sets (R195). -/
def quietFlags (s : State) : BitVec 16 := s.port.flags &&& ~~~ flagWord .outcomeLost

theorem getLsbD_of_quietFlags {s t : State} (h : quietFlags t = quietFlags s) {k : Nat} (hk : k ≠ 1) :
    t.port.flags.getLsbD k = s.port.flags.getLsbD k := by
  have hbit := congrArg (fun f => BitVec.getLsbD f k) h
  simp only [quietFlags, flagWord, flagBit, BitVec.getLsbD_and, BitVec.getLsbD_not, BitVec.getLsbD_twoPow] at hbit
  by_cases hlt : k < 16
  · simpa [hlt, Ne.symm hk] using hbit
  · simp [BitVec.getLsbD_of_ge _ _ (not_lt.1 hlt)]

theorem foldl_quietFlags {α : Type} {f : State → α → State} (h : ∀ a x, quietFlags (f a x) = quietFlags a) (l : List α)
    (s : State) : quietFlags (l.foldl f s) = quietFlags s := by
  induction l generalizing s with
  | nil => rfl
  | cons x xs ih => rw [List.foldl_cons, ih, h]

theorem putOutcome_quietFlags (r : OutcomeRecord) (s : State) : quietFlags (putOutcome r s) = quietFlags s := by
  unfold putOutcome
  split
  · rfl
  · apply BitVec.eq_of_getLsbD_eq
    intro k hk
    simp only [quietFlags, raiseFlag, BitVec.getLsbD_and, BitVec.getLsbD_or, BitVec.getLsbD_not]
    cases BitVec.getLsbD (flagWord .outcomeLost) k <;> simp

theorem noticeOutcome_quietFlags (n : Notice) (r : TxReport) (s : State) : quietFlags (noticeOutcome n r s) = quietFlags s := by
  unfold noticeOutcome pieceOutcome
  repeat' split
  all_goals rfl

theorem slotAdd_quietFlags {n : Notice} {d : Option Count} {s t : State} {k : Nat} (h : slotAdd n d s = some (t, k)) :
    quietFlags t = quietFlags s := by
  unfold slotAdd at h
  split at h
  · cases h
  · rename_i u hu
    cases h
    suffices hroom : quietFlags u = quietFlags s by exact hroom
    unfold roomForAdd at hu
    split at hu
    · cases hu
    split at hu
    · cases hu; rfl
    split at hu
    · split at hu <;> cases hu
      exact noticeOutcome_quietFlags _ _ _
    · cases hu

theorem addNotice_quietFlags (n : Notice) (d : Option Count) {refused : State → State}
    (hr : ∀ a, quietFlags (refused a) = quietFlags a) (s : State) : quietFlags (addNotice n d refused s) = quietFlags s := by
  unfold addNotice
  split
  · exact hr s
  · rename_i hk
    have hadd := slotAdd_quietFlags hk
    split
    · exact (noticeOutcome_quietFlags _ _ _).trans hadd
    · exact hadd

theorem retire_quietFlags (t : Track) (s : State) : quietFlags (retire t s) = quietFlags s := rfl

theorem startStandbyTimer_quietFlags (s : State) : quietFlags (startStandbyTimer s) = quietFlags s := by
  unfold startStandbyTimer; split <;> rfl

theorem linkCleared_quietFlags (k : Nat) (s : State) : quietFlags (linkCleared k s) = quietFlags s := by
  have hempty (a : State) : quietFlags (scheduleEmptied a) = quietFlags a := by
    unfold scheduleEmptied
    split
    · exact startStandbyTimer_quietFlags a
    · rfl
  unfold linkCleared
  simp only [hempty]
  split
  · rfl
  · split
    · split <;> rfl
    · rfl

theorem leave_quietFlags (e : Entry) (r : Result) {tell : State → State} (ht : ∀ a, quietFlags (tell a) = quietFlags a)
    (s : State) : quietFlags (leave e r tell s) = quietFlags s := by
  unfold leave
  split
  · rfl
  · have hput := putOutcome_quietFlags (entryRecord e ‹Track› r s) (removeEntry e.track s)
    have hrec (id : PieceId) (vs : ValveSet) (a : State) : quietFlags (recordFiring id vs a) = quietFlags a := by
      unfold recordFiring; split <;> rfl
    have hfired (t : Track) (a : State) : quietFlags (requestFired e t a) = quietFlags a :=
      addNotice_quietFlags _ _ (refused := countUnsent) (fun _ => rfl) a
    simp only [linkCleared_quietFlags, ht]
    split
    · exact (hfired _ _).trans ((hrec _ _ _).trans hput)
    · exact hput

theorem dropEntry_quietFlags (k : Nat) (r : Result) (s : State) : quietFlags (dropEntry k r s) = quietFlags s := by
  unfold dropEntry
  split
  · rfl
  · exact leave_quietFlags _ _ (fun _ => rfl) s

theorem closeEntry_quietFlags (e : Entry) (r : Result) (cut : Bool) (s : State) :
    quietFlags (closeEntry e r cut s) = quietFlags s :=
  leave_quietFlags _ _ (fun _ => rfl) _

theorem interruptAll_quietFlags (s : State) : quietFlags (interruptAll s) = quietFlags s :=
  foldl_quietFlags (fun _ _ => closeEntry_quietFlags _ _ _ _) _ s

theorem claimOutcome_quietFlags (h : Nat) (r : TxReport) (s : State) : quietFlags (claimOutcome h r s).1 = quietFlags s := by
  unfold claimOutcome
  split
  · rfl
  split
  · split <;> rfl
  · dsimp only
    split
    · rfl
    · rfl
    · exact dropEntry_quietFlags _ _ _

theorem endSlot_quietFlags (x : Slot) (o : TxOutcome) (s : State) : quietFlags (endSlot x o s).1 = quietFlags s := by
  unfold endSlot
  split
  · exact claimOutcome_quietFlags _ _ _
  · exact noticeOutcome_quietFlags _ _ _

theorem cancelSlot_quietFlags (h : Nat) (s : State) : quietFlags (cancelSlot h s).1 = quietFlags s := by
  unfold cancelSlot
  split
  · rfl
  split
  · exact endSlot_quietFlags _ _ s
  · rfl
  · rfl

theorem requestRelease_quietFlags (k : Nat) (why : ReleaseReason) (s : State) :
    quietFlags (requestRelease k why s) = quietFlags s := by
  unfold requestRelease
  split
  · rfl
  · exact addNotice_quietFlags _ _ (refused := countUnsent) (fun _ => rfl) _

theorem schedulerGaveUp_quietFlags (k : Nat) (why : GiveUp) (s : State) :
    quietFlags (schedulerGaveUp k why s) = quietFlags s := by
  unfold schedulerGaveUp
  split
  · rfl
  · split
    · rfl
    · exact cancelSlot_quietFlags _ _

theorem schedulerEnds_quietFlags (e : Entry) (r : Result) (why : GiveUp) (s : State) :
    quietFlags (schedulerEnds e r why s) = quietFlags s := by
  unfold schedulerEnds
  split
  · exact leave_quietFlags _ _ (schedulerGaveUp_quietFlags _ _) s
  · exact leave_quietFlags _ _ (requestRelease_quietFlags _ _) s
  · exact leave_quietFlags _ _ (fun _ => rfl) s

theorem supplyTo_quietFlags (new : Supply) (s : State) : quietFlags (supplyTo new s) = quietFlags s := by
  unfold supplyTo supplyReaction
  split
  · rfl
  split
  · rfl
  · rfl
  · exact (interruptAll_quietFlags _).trans (foldl_quietFlags (fun _ _ => schedulerEnds_quietFlags _ _ _ _) _ _)
  · exact interruptAll_quietFlags _
  · exact interruptAll_quietFlags _

theorem chargedUp_quietFlags (s : State) : quietFlags (chargedUp s) = quietFlags s := by
  have h : quietFlags (supplyTo .ready { s with air.chargeTimer := none }) = quietFlags s := supplyTo_quietFlags _ _
  unfold chargedUp
  dsimp only
  split
  · exact (startStandbyTimer_quietFlags _).trans h
  · exact h

theorem supplyRequested_quietFlags (s : State) : quietFlags (supplyRequested s) = quietFlags s := by
  unfold supplyRequested
  split
  · dsimp only
    split
    · exact (chargedUp_quietFlags _).trans (supplyTo_quietFlags .charging s)
    · exact supplyTo_quietFlags .charging s
  · rfl

theorem admission_quietFlags (t : Track) (c : ClassCode) (w : Window) (vs : ValveSet) (s : State) :
    quietFlags (admission t c w vs s).1 = quietFlags s := by
  have hadmit (e : Entry) (a : State) : quietFlags (admitEntry e a) = quietFlags a := by
    unfold admitEntry; split <;> rfl
  have hdisplace (a : State) (e : Entry) : quietFlags (displace a e) = quietFlags a := schedulerEnds_quietFlags _ _ _ _
  unfold admission
  dsimp only
  split
  · rfl
  · exact (hadmit _ _).trans (foldl_quietFlags hdisplace _ s)

theorem claimRequest_quietFlags (t : Track) (c : ClassCode) (s : State) :
    quietFlags (claimRequest t c s) = quietFlags s := by
  have hrequest : quietFlags (requestEntry t c s).1 = quietFlags s := by
    have hsupply := supplyRequested_quietFlags s
    unfold requestEntry
    dsimp only
    repeat' split
    all_goals first | exact hsupply | exact (admission_quietFlags _ _ _ _ _).trans hsupply
  have hadd (o : Count) (a : State) : quietFlags (addClaim t c o a) = quietFlags a := by
    unfold addClaim
    dsimp only
    split
    · exact dropEntry_quietFlags _ _ a
    · rename_i hk
      have hadd' := slotAdd_quietFlags hk
      split
      · exact (claimOutcome_quietFlags _ _ _).trans hadd'
      · exact hadd'
  unfold claimRequest
  split <;> rename_i heq <;> rw [heq] at hrequest
  · exact (putOutcome_quietFlags _ _).trans hrequest
  · exact (hadd _ _).trans hrequest

theorem examine_quietFlags (k : Nat) (s : State) : quietFlags (examine k s) = quietFlags s := by
  unfold examine
  split
  · rfl
  split
  · rfl
  split
  · rfl
  · rfl
  split
  · split
    · exact claimRequest_quietFlags _ _ s
    · rfl
  · split <;> rfl

theorem examineIf_quietFlags (r : State × Option Nat) : quietFlags (examineIf r) = quietFlags r.1 := by
  unfold examineIf
  split
  · rfl
  · exact examine_quietFlags _ _

end Sys2Proof.Machine
end

/-! ### The belt position unit (R1 to R10) -/

section
namespace Sys2Proof.Machine

set_option Elab.async false

/-! #### A change of motion state -/

theorem motionTo_of_same {m : Motion} {s : State} (h : s.belt.motion = m) : motionTo m s = s := if_pos h

/-- The entries left when a motion state other than RUNNING closes the OPEN ones, with every entry of their tracks. -/
def closedOut (entries : List Entry) : List Entry :=
  entries.filter fun e => !(entries.any fun o => o.state = .opened && o.track = e.track)

theorem interruptAll_closedOut (s : State) : (interruptAll s).sched.entries = closedOut s.sched.entries := by
  rw [(interruptAll_entries s).1, closedOut]
  simp only [List.any_filter]

theorem flagStop_spine (m : Motion) (s : State) : spine (flagStop m s) = spine s := by
  unfold flagStop; split <;> rfl

theorem motionTo_spine (m : Motion) (s : State) : spine (motionTo m s) = spine { s with belt.motion := m } := by
  unfold motionTo
  split
  · rename_i h; rw [← h]
  · have hflag : spine { flagStop m s with belt.motion := m } = spine { s with belt.motion := m } := by
      unfold flagStop; split <;> rfl
    dsimp only
    split
    · exact hflag
    · exact (interruptAll_spine _).trans hflag

theorem motionTo_belt (m : Motion) (s : State) : (motionTo m s).belt = { s.belt with motion := m } :=
  belt_of_spine (motionTo_spine m s)

theorem motionTo_entries (m : Motion) (s : State) :
    (motionTo m s).sched.entries
      = if m = s.belt.motion ∨ m = .running then s.sched.entries else closedOut s.sched.entries := by
  have hflag : (flagStop m s).sched = s.sched := by unfold flagStop; split <;> rfl
  unfold motionTo
  split
  case isTrue h => rw [if_pos (.inl h.symm)]
  case isFalse h =>
    dsimp only
    split
    case isTrue hrun =>
      rw [if_pos (.inr hrun)]
      exact congrArg Sched.entries hflag
    case isFalse hrun =>
      rw [if_neg (by tauto), interruptAll_closedOut]
      exact congrArg (fun x => closedOut (Sched.entries x)) hflag

/-- LINE_STOPPED follows the change of the motion state (R7). -/
theorem motionTo_lineStopped (m : Motion) (s : State) :
    (motionTo m s).port.flags.getLsbD 10 = (s.port.flags.getLsbD 10 || (decide (s.belt.motion ≠ m) && stopsLine m s)) := by
  have hflag : (flagStop m s).port.flags.getLsbD 10 = (s.port.flags.getLsbD 10 || stopsLine m s) := by
    unfold flagStop
    split
    · rename_i h
      rw [h, Bool.or_true]
      exact raiseFlag_getLsbD_flagBit .lineStopped s
    · rename_i h
      simp [h]
  unfold motionTo
  split
  case isTrue h => simp [h]
  case isFalse h =>
    rw [decide_eq_true h, Bool.true_and, ← hflag]
    dsimp only
    split
    · rfl
    · exact getLsbD_of_quietFlags (interruptAll_quietFlags _) (by decide)

/-! #### Encoder edges -/

/-- Settles O3: a reverse count in a running window is a change to REVERSING. -/
theorem encoderEdgeStepsTheBeltCount : Obligations.EncoderEdgeStepsTheBeltCount := by
  intro s
  refine ⟨rfl, rfl, fun hnone => ?_, fun hsome => ?_⟩
  · change execEncoderEdge .reverse s = _
    simp [execEncoderEdge, stepReverse, hnone]
  · have hbelt : stepReverse s.belt
        = { s.belt with count := s.belt.count - 1, reverse := s.belt.reverse + 1, reverseFree := false } := if_pos hsome
    have hexec : exec (.encoderEdge .reverse) s
        = .next (syncBar (motionTo .reversing { s with belt := stepReverse s.belt })) := by
      change execEncoderEdge .reverse s = _
      simp only [execEncoderEdge, if_pos hsome]
    have hmotion : (stepReverse s.belt).motion = s.belt.motion := by rw [hbelt]
    refine ⟨_, hexec, ?_, ?_, fun hgoing hrun => ?_, ?_⟩
    · simp only [syncBar_frame, motionTo_belt, hbelt]
    · simp only [syncBar_frame, motionTo_entries, hmotion, eq_comm (a := Motion.reversing), reduceCtorEq, or_false, closedOut]
    · simp only [syncBar_frame, motionTo_lineStopped]
      have hstops : stopsLine .reversing { s with belt := stepReverse s.belt } = true := by
        simp only [stopsLine, hmotion, hrun]
        obtain h | h := hgoing <;> simp [h, isHalt]
      rw [hstops]
      obtain h | h := hgoing <;> simp [hmotion, h]
    · have hspine := motionTo_spine .reversing { s with belt := stepReverse s.belt }
      have hsync : spine { syncBar (motionTo .reversing { s with belt := stepReverse s.belt }) with belt := s.belt, bar := s.bar }
          = spine { motionTo .reversing { s with belt := stepReverse s.belt } with belt := s.belt, bar := s.bar } := by
        obtain ⟨b, hb⟩ := syncBar_eq (motionTo .reversing { s with belt := stepReverse s.belt })
        rw [hb]
      have hrest := congrArg (fun a : State => { a with belt := s.belt, bar := s.bar }) hspine
      exact hsync.trans hrest

end Sys2Proof.Machine
end

/-! ### Scan strobes and window ends (R4 to R10, R25) -/

section
namespace Sys2Proof.Machine

set_option Elab.async false

theorem modeAtStrobe_eq (s : State) :
    ∃ m r, modeAtStrobe s = { s with engine.mode := m, engine.returnCounter := r } := by
  unfold modeAtStrobe
  dsimp only
  repeat' split
  all_goals exact ⟨_, _, rfl⟩

/-- What a strobe may change (R8, R10, R25). -/
def StrobeChange (s t : State) : Prop :=
  ∃ n ring next word m r,
    t = { s with
          belt.scanNumber := n
          belt.ring := ring
          belt.nextStrobe := next
          belt.strobeWord := word
          engine.mode := m
          engine.returnCounter := r }

theorem strobeIfDue_change (s : State) : StrobeChange s (strobeIfDue s) := by
  unfold strobeIfDue
  split
  · unfold issueStrobe
    obtain ⟨m, r, h⟩ := modeAtStrobe_eq _
    rw [h]
    exact ⟨_, _, _, _, _, _, rfl⟩
  · exact ⟨_, _, _, _, _, _, rfl⟩

theorem strobeDue_iff (s : State) :
    strobeDue s = true ↔ s.port.station = .running ∧ reached s s.belt.nextStrobe = true ∧ s.belt.motion ≠ .reversing
      ∧ s.belt.strobeWord = none := by
  simp [strobeDue, and_assoc]

/-- The belt position unit with a strobe issued at the present count (R8, R10). -/
def strobed (pitch : Nat) (b : Belt) : Belt :=
  { b with
    scanNumber := b.scanNumber + 1
    ring := (b.ring ++ [(b.scanNumber + 1, b.count)]).drop (b.ring.length + 1 - 256)
    nextStrobe := b.count + BitVec.ofNat 32 pitch
    strobeWord := some (b.scanNumber + 1) }

theorem issueStrobe_belt (s : State) : (issueStrobe s).belt = strobed (prof s).scanPitch s.belt := by
  unfold issueStrobe
  obtain ⟨m, r, h⟩ := modeAtStrobe_eq _
  rw [h]
  rfl

/-- The mode and the return counter after a strobe has examined both fills (R25). -/
def engineAtStrobe (s : State) : Engine :=
  if s.engine.mode = .full ∨ (prof s).quickOnly = true then s.engine
  else if s.intake.queue.length ≤ (prof s).intakeLow ∧ s.accept.general.length ≤ (prof s).generalLow then
    if (prof s).returnScans ≤ s.engine.returnCounter + 1 then { s.engine with mode := .full, returnCounter := 0 }
    else { s.engine with returnCounter := s.engine.returnCounter + 1 }
  else { s.engine with returnCounter := 0 }

theorem modeAtStrobe_engine (s : State) : modeAtStrobe s = { s with engine := engineAtStrobe s } := by
  unfold modeAtStrobe engineAtStrobe
  have hmode : s.engine.mode = .quick ↔ ¬ s.engine.mode = .full := by cases s.engine.mode <;> simp
  by_cases hq : s.engine.mode = .full ∨ (prof s).quickOnly = true
  · rw [if_pos hq, if_neg]
    simp [hmode]
    tauto
  · rw [if_neg hq, if_pos (by simpa [hmode] using hq)]
    by_cases hlow : s.intake.queue.length ≤ (prof s).intakeLow ∧ s.accept.general.length ≤ (prof s).generalLow
    · rw [if_pos hlow, if_pos (by simpa using hlow)]
      split <;> rfl
    · rw [if_neg hlow, if_neg (by simpa using hlow)]

/-- Settles O5. -/
theorem dueStrobeIsIssued : Obligations.DueStrobeIsIssued := by
  intro s
  have hexec : exec .scanStrobe s = .next (strobeIfDue s) := rfl
  refine ⟨fun hdue => ?_, fun hdue => ?_, fun hfree => ?_, fun hbusy => ?_⟩
  · rw [hexec, strobeIfDue, if_pos ((strobeDue_iff s).2 hdue), issueStrobe, modeAtStrobe_engine]
    rfl
  · rw [hexec, strobeIfDue, if_neg (mt (strobeDue_iff s).1 hdue)]
  · change execStrobeWordEnd s = _
    rw [execStrobeWordEnd, hfree]
  · obtain ⟨w, hw⟩ := Option.ne_none_iff_exists'.1 hbusy
    change execStrobeWordEnd s = _
    rw [execStrobeWordEnd, hw]
    rfl

/-! #### A window end -/

/-- The state in which a window end has set the motion state, before a strobe that fell due (R4 to R7). -/
def windowTaken (t0 : Nat) (s : State) : State :=
  motionTo (motionAtEnd s.belt (speedAtEnd s.belt) (prof s).sMin)
    (clockTo t0 { s with
      belt := windowEnded t0 (motionAtEnd s.belt (speedAtEnd s.belt) (prof s).sMin) s.belt })

/-- The state a window end leaves, before the bar is told. -/
def windowClosed (t0 : Nat) (s : State) : State :=
  if s.belt.motion = .reversing && motionAtEnd s.belt (speedAtEnd s.belt) (prof s).sMin ≠ .reversing then
    strobeIfDue (windowTaken t0 s)
  else windowTaken t0 s

theorem exec_speedWindowEnd {s : State} {t0 : Nat} (h : s.belt.windowTimer = some t0) :
    exec .speedWindowEnd s = .next (syncBar (windowClosed t0 s)) := by
  change execSpeedWindowEnd s = _
  rw [execSpeedWindowEnd, h]
  rfl

theorem clock_of_spine {s t : State} (h : spine t = spine s) : t.clock = s.clock := by
  have hs := congrArg (fun a : State => a.clock) h
  exact hs

theorem mode_of_spine {s t : State} (h : spine t = spine s) :
    t.engine.mode = s.engine.mode ∧ t.engine.returnCounter = s.engine.returnCounter := by
  have hmode := congrArg (fun a : State => a.engine.mode) h
  have hcounter := congrArg (fun a : State => a.engine.returnCounter) h
  exact ⟨hmode, hcounter⟩

theorem windowClosed_change (t0 : Nat) (s : State) : StrobeChange (windowTaken t0 s) (windowClosed t0 s) := by
  unfold windowClosed
  split
  · exact strobeIfDue_change _
  · exact ⟨_, _, _, _, _, _, rfl⟩

theorem windowTaken_spine (t0 : Nat) (s : State) :
    spine (windowTaken t0 s)
      = spine { s with
          clock := max s.clock t0
          belt :=
            { windowEnded t0 (motionAtEnd s.belt (speedAtEnd s.belt) (prof s).sMin) s.belt with
              motion := motionAtEnd s.belt (speedAtEnd s.belt) (prof s).sMin } } :=
  motionTo_spine _ _

/-- A state of motion that a window end declares is not REVERSING unless it was, so REVERSING is never entered at one. -/
theorem motionAtEnd_ne_reversing {b : Belt} (speed sMin : Nat) (h : b.motion ≠ .reversing) :
    motionAtEnd b speed sMin ≠ .reversing := by
  unfold motionAtEnd bySpeed
  rw [if_neg h]
  repeat' split
  all_goals simp

theorem stopsLine_motionAtEnd (t0 : Nat) (s : State) (m : Motion) (hm : s.belt.motion ≠ .reversing → m ≠ .reversing) :
    (decide (s.belt.motion ≠ m)
        && stopsLine m (clockTo t0 { s with belt := windowEnded t0 m s.belt }))
      = decide ((s.belt.motion = .running ∨ s.belt.motion = .slow) ∧ m = .stopped ∧ s.port.station = .running) := by
  have hmotion : (clockTo t0 { s with belt := windowEnded t0 m s.belt }).belt.motion = s.belt.motion := rfl
  have hstation : (clockTo t0 { s with belt := windowEnded t0 m s.belt }).port.station = s.port.station := rfl
  rw [stopsLine, hmotion, hstation]
  cases hs : s.belt.motion <;> cases m <;> simp_all [isHalt]

/-- Settles O4: the window's end is a change of motion state, then a strobe that fell due. -/
theorem windowEndMeasuresTheSpeed : Obligations.WindowEndMeasuresTheSpeed := by
  intro s
  refine ⟨fun h => ?_, fun t0 h => ⟨_, exec_speedWindowEnd h, ?_⟩⟩
  · change execSpeedWindowEnd s = _
    rw [execSpeedWindowEnd, h]
  set m := motionAtEnd s.belt (speedAtEnd s.belt) (prof s).sMin with hm
  have hspine := windowTaken_spine t0 s
  have hbelt : (windowTaken t0 s).belt = { windowEnded t0 m s.belt with motion := m } := belt_of_spine hspine
  have hentries : (windowTaken t0 s).sched.entries
      = if m = s.belt.motion ∨ m = .running then s.sched.entries else closedOut s.sched.entries :=
    motionTo_entries _ _
  have hflag : (windowTaken t0 s).port.flags.getLsbD 10
      = (s.port.flags.getLsbD 10
        || decide ((s.belt.motion = .running ∨ s.belt.motion = .slow) ∧ m = .stopped ∧ s.port.station = .running)) :=
    (motionTo_lineStopped _ _).trans (congrArg _ (stopsLine_motionAtEnd t0 s m (motionAtEnd_ne_reversing _ _)))
  have hstrobe : strobeDue (windowTaken t0 s) = true ↔ s.port.station = .running
      ∧ reached s s.belt.nextStrobe = true ∧ m ≠ .reversing ∧ s.belt.strobeWord = none := by
    rw [strobeDue_iff, station_of_spine hspine, reached, hbelt]
    rfl
  have hissue : if s.belt.motion = .reversing ∧ m ≠ .reversing ∧ s.port.station = .running
      ∧ reached s s.belt.nextStrobe = true ∧ s.belt.strobeWord = none then
      (windowClosed t0 s).belt = strobed (prof s).scanPitch (windowTaken t0 s).belt
      else windowClosed t0 s = windowTaken t0 s := by
    split
    case isTrue hc =>
      obtain ⟨hrev, hm', hrun, hnext, hword⟩ := hc
      rw [windowClosed, if_pos (by simp [hrev, ← hm, hm']), strobeIfDue, if_pos (hstrobe.2 ⟨hrun, hnext, hm', hword⟩),
        issueStrobe_belt, prof_of_spine hspine]
      rfl
    case isFalse hc =>
      rw [windowClosed, strobeIfDue, ← hm]
      split
      · rename_i hrev
        rw [if_neg]
        intro hdue
        obtain ⟨hrun, hnext, hm', hword⟩ := hstrobe.1 hdue
        exact hc ⟨of_decide_eq_true (Bool.and_eq_true_iff.1 hrev).1, hm', hrun, hnext, hword⟩
      · rfl
  obtain ⟨n, ring, next, word, mode, r, hclosed⟩ := windowClosed_change t0 s
  have hmotion : (windowClosed t0 s).belt.motion = m := by rw [hclosed, hbelt]
  have hspeed : (windowClosed t0 s).belt.speed = speedAtEnd s.belt := by rw [hclosed, hbelt]; rfl
  have hzero : (windowClosed t0 s).belt.zeroRun = zeroRunAtEnd s.belt := by rw [hclosed, hbelt]; rfl
  simp only [syncBar_frame, hmotion, hspeed, hzero]
  refine ⟨?_, ?_, ?_, ?_, ?_, ?_, ?_, ?_, ?_, ?_, ?_, ?_, ?_, ?_, ?_, ?_⟩
  · rw [hclosed, hbelt]; rfl
  · rfl
  · intro hgoing
    rw [zeroRunAtEnd, if_neg hgoing]
    exact ⟨rfl, hm.trans (by rw [motionAtEnd, if_neg hgoing, bySpeed])⟩
  · intro hrev
    rw [zeroRunAtEnd, if_pos hrev, hm, motionAtEnd, if_pos hrev]
    by_cases hl : leavesReversing s.belt = true
    · rw [if_pos (by simpa [leavesReversing, and_assoc] using hl), if_pos hl, if_pos hl]
      exact ⟨rfl, rfl⟩
    · rw [if_neg (by simpa [leavesReversing, and_assoc] using hl), if_neg hl, if_neg hl]
      exact ⟨rfl, rfl⟩
  · rw [hclosed, hbelt]; rfl
  · rw [hclosed, hbelt]; rfl
  · rw [hclosed, hbelt]; rfl
  · rw [hclosed, hbelt]; rfl
  · rw [hclosed, hbelt]; rfl
  · rw [hclosed, hbelt]; rfl
  · rw [hclosed, hbelt]; rfl
  · rw [hclosed]; exact clock_of_spine hspine
  · rw [hclosed]; exact hflag
  · rw [hclosed]; exact hentries
  · split at hissue
    · rename_i hc
      rw [if_pos hc, hissue, hbelt]
      simp only [strobed, windowEnded, and_self]
    · rename_i hc
      rw [if_neg hc, hissue, hbelt]
      exact ⟨rfl, rfl, rfl, rfl, (mode_of_spine hspine).1, (mode_of_spine hspine).2⟩
  · rw [hclosed]
    exact congrArg (fun a : State =>
      { a with
        clock := s.clock
        belt := s.belt
        bar := s.bar
        engine.mode := s.engine.mode
        engine.returnCounter := s.engine.returnCounter }) hspine

end Sys2Proof.Machine
end

/-! ### The detection intake (R15 to R20, R24) -/

section
namespace Sys2Proof.Machine

set_option Elab.async false

/-- A record completed at the release of record enable is the bytes held before with those that follow (R15). -/
theorem completeRecord_of_held {s : State} {held bytes r : List Byte} (partialByte : Bool)
    (hheld : s.intake.reception = .idle ∧ held = [] ∨ s.intake.reception = .receiving held) (hr : r = held ++ bytes) :
    exec (.recordComplete bytes (.released partialByte)) s
      = .next (takeRecord r partialByte { s with intake.reception := .idle }) := by
  change Host.Outcome.next (completeRecord bytes partialByte s) = _
  obtain ⟨hidle, hnil⟩ | hheld := hheld
  · simp [completeRecord, hidle, hr, hnil]
  · simp [completeRecord, hheld, hr]

theorem takeRecord_malformed {b : List Byte} {partialByte : Bool} {s : State} (hwork : working s = true)
    (hbad : malformed b partialByte s = true) :
    takeRecord b partialByte s = { s with intake.malformed := bump s.intake.malformed } := by
  simp [takeRecord, hwork, hbad]

theorem takeRecord_stale {b : List Byte} {partialByte : Bool} {s : State} (hwork : working s = true)
    (hgood : malformed b partialByte s = false) (hstale : scanCounts b s = none) :
    takeRecord b partialByte s = { s with intake.stale := bump s.intake.stale } := by
  simp [takeRecord, hwork, hgood, hstale]

theorem takeRecord_good {b : List Byte} {partialByte : Bool} {s : State} {lead trail : Count} (hwork : working s = true)
    (hgood : malformed b partialByte s = false) (hcounts : scanCounts b s = some (lead, trail)) :
    takeRecord b partialByte s = queueRecord b lead trail s := by
  simp [takeRecord, hwork, hgood, hcounts]

theorem working_iff (s : State) : working s = true ↔ s.port.station = .running ∨ s.port.station = .halting := by
  simp [working]

/-- A record of neither kind has no length that would fit it (R15). -/
theorem malformed_of_kind {b : List Byte} (partialByte : Bool) (s : State) (h1 : u8 b 0 / 16 ≠ 1) (h2 : u8 b 0 / 16 ≠ 2) :
    malformed b partialByte s = true := by
  have hlength : recordLength b = none := by unfold recordLength; split <;> simp_all
  simp [malformed, hlength]

/-- An entry joins a queue that has room, and a fill that rises to the high level turns the mode to QUICK (R20, R24). -/
theorem joinIntake_of_room {e : IntakeEntry} {s : State} (h : s.intake.queue.length < 32) :
    joinIntake e s
      = { s with
          intake.queue := s.intake.queue ++ [e]
          engine :=
            if s.intake.queue.length + 1 = (prof s).intakeHigh then { s.engine with mode := .quick, returnCounter := 0 }
            else s.engine } := by
  unfold joinIntake modeToQuick
  rw [if_pos h]
  simp only [List.length_append, List.length_singleton]
  split <;> rfl

theorem queueRecord_of_halting {b : List Byte} {s : State} (lead trail : Count) (hkind : u8 b 0 / 16 = 1)
    (hhalt : s.port.station = .halting) : queueRecord b lead trail s = s := by
  simp [queueRecord, isDetectionRecord, hkind, hhalt]

theorem queueRecord_join {b : List Byte} {s : State} (lead trail : Count)
    (h : s.port.station = .running ∨ u8 b 0 / 16 = 2) :
    queueRecord b lead trail s = joinIntake (convert b lead trail s) s := by
  rw [queueRecord, if_neg]
  obtain h | h := h <;> simp [isDetectionRecord, h]

theorem convert_detection {b : List Byte} {lead trail : Count} {s : State} (h : u8 b 0 / 16 = 1) :
    convert b lead trail s
      = .detection
          { d := lead
            length := (max 1 (min 4095 ((trail - lead).toInt + (prof s).scanPitch))).toNat
            laneLo := u8 b 5
            laneHi := u8 b 6
            pairs := pairsAt b 7 (u8 b 0 % 8)
            cluster := bitAt b 0 3 } := by
  have hlength : detectionLength lead trail (prof s).scanPitch
      = (max 1 (min 4095 ((trail - lead).toInt + (prof s).scanPitch))).toNat := by
    rw [detectionLength, signedDiff]; omega
  simp [convert, isDetectionRecord, h, hlength]

theorem convert_arrival {b : List Byte} {lead trail : Count} {s : State} (h : u8 b 0 / 16 = 2) :
    convert b lead trail s = .arrival { count := lead, chute := Fin.ofNat 4 (u8 b 0) } := by
  simp [convert, isDetectionRecord, h]

/-- Settles O6. -/
theorem goodRecordsJoinTheIntakeQueue : Obligations.GoodRecordsJoinTheIntakeQueue := by
  intro s held bytes r lead trail hheld hr
  refine ⟨?_, fun hgood hcounts hroom => ?_⟩
  · change Host.Outcome.next { s with intake.reception := receive bytes s.intake.reception } = _
    obtain ⟨hidle, hnil⟩ | hheld := hheld
    · simp [receive, hidle, hr, hnil]
    · simp [receive, hheld, hr]
  · rw [completeRecord_of_held false hheld hr]
    obtain ⟨u, hu⟩ : ∃ u : State, u = { s with intake.reception := .idle } := ⟨_, rfl⟩
    have hsame : working u = working s ∧ malformed r false u = malformed r false s ∧ scanCounts r u = scanCounts r s
        ∧ u.intake.queue = s.intake.queue ∧ u.port.station = s.port.station := by
      rw [hu]; exact ⟨rfl, rfl, rfl, rfl, rfl⟩
    obtain ⟨hworking, hmalformed, hscans, hqueue, hstation⟩ := hsame
    have htake (hwork : working s = true) : takeRecord r false u = queueRecord r lead trail u :=
      takeRecord_good (hworking.trans hwork) (hmalformed.trans hgood) (hscans.trans hcounts)
    rw [← hqueue] at hroom
    rw [← hu, ← hstation]
    refine ⟨fun hkind hrun => ?_, fun hkind hhalt => ?_, fun hkind hwork => ?_⟩
    · rw [htake ((working_iff s).2 (.inl (hstation ▸ hrun))), queueRecord_join lead trail (.inl hrun),
        convert_detection hkind, joinIntake_of_room hroom, hu]
      rfl
    · rw [htake ((working_iff s).2 (.inr (hstation ▸ hhalt))), queueRecord_of_halting lead trail hkind hhalt]
    · rw [htake ((working_iff s).2 (hstation ▸ hwork)), queueRecord_join lead trail (.inr hkind),
        convert_arrival hkind, joinIntake_of_room hroom, hu]
      rfl

/-- The conditions that R15 and R16 name make a record MALFORMED. -/
theorem malformed_of_conditions {r : List Byte} {partialByte : Bool} {s : State}
    (h : (partialByte = true ∨ (u8 r 0 / 16 ≠ 1 ∧ u8 r 0 / 16 ≠ 2)
            ∨ (u8 r 0 / 16 = 1 ∧ (4 < u8 r 0 % 8 ∨ r.length ≠ 7 + 2 * (u8 r 0 % 8) ∨ u8 r 6 < u8 r 5
                ∨ (trailScan r - leadScan r).toInt < 0 ∨ 0 < (trailScan r - s.belt.scanNumber).toInt
                ∨ (prof s).sense = false))
            ∨ (u8 r 0 / 16 = 2 ∧ (r.length ≠ 3 ∨ (prof s).check = false))
            ∨ 0 < (leadScan r - s.belt.scanNumber).toInt)) : malformed r partialByte s = true := by
  obtain hpart | ⟨h1, h2⟩ | ⟨hkind, hbad⟩ | ⟨hkind, hbad⟩ | hahead := h
  · simp only [malformed, hpart, Bool.true_or]
  · exact malformed_of_kind _ _ h1 h2
  · have hdetection : isDetectionRecord r = true := decide_eq_true hkind
    have hlength : recordLength r = if u8 r 0 % 8 ≤ 4 then some (7 + 2 * (u8 r 0 % 8)) else none := by
      simp only [recordLength, hkind]
    have hcheck : recordLength r ≠ some r.length ∨ detectionMalformed r s = true := by
      obtain h | h | h | h | h | h := hbad
      · exact .inl (by rw [hlength, if_neg (Nat.not_le.2 h)]; simp)
      · refine .inl ?_
        rw [hlength]
        split
        · simpa using Ne.symm h
        · simp
      all_goals
        refine .inr ?_
        rw [detectionMalformed, scanAhead]
        simp only [h, decide_true, Bool.true_or, Bool.or_true, Bool.not_false]
    rw [malformed, if_pos hdetection]
    obtain h | h := hcheck
    · simp only [h, ne_eq, not_false_eq_true, decide_true, Bool.or_true, Bool.true_or]
    · simp only [h, Bool.or_true]
  · have harrival : ¬ isDetectionRecord r = true := by simp [isDetectionRecord, hkind]
    have hlength : recordLength r = some 3 := by simp only [recordLength, hkind]
    rw [malformed, hlength, if_neg harrival]
    obtain h | h := hbad
    · simp [Ne.symm h]
    · simp only [h, Bool.not_false, Bool.or_true]
  · have h : scanAhead s (leadScan r) = true := decide_eq_true hahead
    simp only [malformed, h, Bool.or_true, Bool.true_or]

/-- Settles O7. -/
theorem badRecordsAreCountedAndDiscarded : Obligations.BadRecordsAreCountedAndDiscarded := by
  intro s u held bytes r partialByte hu
  refine ⟨fun habandoned => ⟨?_, ?_⟩, fun hheld hr => ?_⟩
  · change Host.Outcome.next { s with intake.reception := receive bytes s.intake.reception } = _
    rw [habandoned, receive, ← habandoned]
  · change Host.Outcome.next (completeRecord bytes partialByte s) = _
    simp [completeRecord, habandoned, hu]
  · have hcounted : u.intake.malformed = s.intake.malformed ∧ u.intake.stale = s.intake.stale
        ∧ u.intake.dropped = s.intake.dropped := by rw [hu]; exact ⟨rfl, rfl, rfl⟩
    obtain ⟨hmal, hst, hdrop⟩ := hcounted
    have hsame : working u = working s ∧ malformed r partialByte u = malformed r partialByte s
        ∧ scanCounts r u = scanCounts r s ∧ u.intake.queue = s.intake.queue ∧ u.port.station = s.port.station := by
      rw [hu]; exact ⟨rfl, rfl, rfl, rfl, rfl⟩
    obtain ⟨hworking, hmalformed, hscans, hqueue, hstation⟩ := hsame
    rw [completeRecord_of_held partialByte hheld hr, ← hu, ← hmal, ← hst, ← hdrop, ← hscans, ← hmalformed]
    refine ⟨fun hrun hhalt => ?_, fun hwork => ?_⟩
    · rw [takeRecord, if_neg]
      rw [hworking, working_iff]
      simp [hrun, hhalt]
    · rw [← working_iff, ← hworking] at hwork
      refine ⟨fun hbad => ?_, fun hgood hstale => ?_, fun hgood hcounts hfull hjoin => ?_⟩
      · rw [takeRecord_malformed hwork (hmalformed.trans (malformed_of_conditions hbad))]
      · rw [takeRecord_stale hwork hgood]
        rw [hscans, scanCounts]
        obtain hnone | ⟨lead, hlead, hfar⟩ := hstale
        · rw [hnone]
        · rw [hlead]
          split
          · rename_i hlead' _
            cases hlead'
            rw [if_neg (by simpa [signedDiff, Config.staleDistance] using hfar)]
          · rfl
      · obtain ⟨⟨lead, trail⟩, hcounts⟩ := Option.isSome_iff_exists.1 hcounts
        rw [takeRecord_good hwork hgood hcounts, queueRecord_join _ _ (hstation ▸ hjoin), joinIntake,
          if_neg (Nat.not_lt.2 (hqueue ▸ hfull))]

end Sys2Proof.Machine
end

/-! ### Retirement, and PIECE entries that leave no track (R34, R35, R42, R52) -/

section
namespace Sys2Proof.Machine

set_option Elab.async false

theorem exec_retirementCountReached {s : State} {id : PieceId} {t : Track} (h : trackOf id s = some t) :
    exec (.retirementCountReached id) s
      = if working s && reached s (retirementCount s t) then .next (retireOrHold t s) else .next s := by
  change execRetirementCountReached id s = _
  rw [execRetirementCountReached, h]

theorem linked_iff (k : Nat) (s : State) : linked k s = true ↔ ∃ e ∈ s.sched.entries, e.track = k := by
  simp [linked]

theorem retire_eq (t : Track) (s : State) :
    retire t s
      = { s with
          engine.tracks := s.engine.tracks.filter fun u => u.key ≠ t.key
          engine.tableFull := false
          engine.unannounced := if t.unannounced then bump s.engine.unannounced else s.engine.unannounced
          engine.crowded := if t.crowded then bump s.engine.crowded else s.engine.crowded
          engine.split := if t.split then bump s.engine.split else s.engine.split
          claim.ownClaims :=
            s.claim.ownClaims.map fun r =>
              if t.primary = r.id ∨ t.aliasId = some r.id then { r with orphan := true } else r } := by
  have hrecords : (s.claim.ownClaims.map fun r => if hasId r.id t then { r with orphan := true } else r)
      = s.claim.ownClaims.map fun r =>
          if t.primary = r.id ∨ t.aliasId = some r.id then { r with orphan := true } else r := by
    simp [hasId]
  rw [← hrecords]
  rfl

/-- Settles O8. -/
theorem retirementTakesAnUnlinkedTrackOut : Obligations.RetirementTakesAnUnlinkedTrackOut := by
  intro s id t ht
  refine ⟨fun hwork hdue => ⟨fun hfree => ?_, fun hlinked => ?_⟩, fun hstay => ?_⟩ <;>
    rw [exec_retirementCountReached ht]
  · change reached s (retirementCount s t) = true at hdue
    rw [if_pos (Bool.and_eq_true_iff.2 ⟨(working_iff s).2 hwork, hdue⟩), retireOrHold, if_neg, retire_eq]
    rw [linked_iff]
    exact fun ⟨e, he, hk⟩ => hfree e he hk
  · change reached s (retirementCount s t) = true at hdue
    rw [if_pos (Bool.and_eq_true_iff.2 ⟨(working_iff s).2 hwork, hdue⟩), retireOrHold,
      if_pos ((linked_iff _ _).2 hlinked)]
    rfl
  · rw [if_neg]
    rw [Bool.and_eq_true_iff, working_iff]
    rintro ⟨hwork, hdue⟩
    obtain ⟨h1, h2⟩ | h := hstay
    · exact hwork.elim h1 h2
    · exact absurd (hdue.symm.trans h) (by simp)

/-- A PIECE entry leaves the general queue when its turn has come, or no detection waits (R34). -/
theorem nextPiece_eq {s : State} {r : QueueEntry × List QueueEntry} (hwork : working s = true)
    (hturn : s.engine.turn = .general ∨ ∀ y ∈ s.intake.queue, isDetection y = false)
    (h : takeFirst isPiece s.accept.general = some r) : nextPiece s = some r := by
  rw [nextPiece, if_pos, h]
  rw [hwork, Bool.true_and]
  obtain h | h := hturn
  · simp [h]
  · simp only [Bool.or_eq_true, Bool.not_eq_true', List.any_eq_false]
    exact .inl (.inr fun y hy => by simp [h y hy])

theorem exec_pieceEntryTaken_discarded {s : State} {e : QueueEntry} {rest : List QueueEntry}
    (h : nextPiece s = some (e, rest))
    (hout : e.own = true ∨ s.port.station = .halting ∨ keepsTracks s = false) :
    exec .pieceEntryTaken s = .next { s with accept.general := rest, engine.turn := .intake } := by
  change execPieceEntryTaken s = _
  rw [execPieceEntryTaken, h]
  refine if_pos ?_
  obtain h | h | h := hout <;> simp [h]

theorem exec_pieceEntryTaken {s : State} {e : QueueEntry} {rest : List QueueEntry} {pos : BitVec 24} {info : PieceInfo}
    (h : nextPiece s = some (e, rest)) (hown : e.own = false) (hrun : s.port.station = .running)
    (hkeeps : (prof s).sense = true ∨ (prof s).eject = true) (hwire : e.wire = .piece pos info) :
    exec .pieceEntryTaken s
      = .next (syncBar (takePiece e.latch e.origin pos info
          { s with accept.general := rest, engine.turn := .intake })) := by
  change execPieceEntryTaken s = _
  rw [execPieceEntryTaken, h]
  refine (if_neg ?_).trans ?_
  · have hkeeps' : keepsTracks s = true := by simpa [keepsTracks] using hkeeps
    simp [hown, hrun, hkeeps']
  · rw [hwire]

/-- Settles O9. -/
theorem pieceEntriesThatAreDiscarded : Obligations.PieceEntriesThatAreDiscarded := by
  intro s e rest hbar hfirst hturn
  refine ⟨fun hout => ?_, fun pos info hwire hrun hown hkeeps hpast => ?_⟩
  · have hwork : working s = true := (working_iff s).2 (hout.symm.imp (·.1) id)
    refine exec_pieceEntryTaken_discarded (nextPiece_eq hwork (.inl hturn) hfirst) ?_
    obtain h | ⟨-, h | ⟨hs, he⟩⟩ := hout
    · exact .inr (.inl h)
    · exact .inl h
    · exact .inr (.inr (by simp [keepsTracks, hs, he]))
  · rw [exec_pieceEntryTaken (nextPiece_eq ((working_iff s).2 (.inl hrun)) (.inl hturn) hfirst) hown hrun hkeeps hwire,
      takePiece]
    refine congrArg _ ((congrArg syncBar (if_pos hpast)).trans (syncBar_of_inStep hbar))

end Sys2Proof.Machine
end

/-! ### The valve set of a piece (R155, R170) -/

section
namespace Sys2Proof.Machine

set_option Elab.async false

theorem getLsbD_firingValve {m : ValveMap} (h : LawfulMap m.valve) {u : Fin 64} {v : Nat}
    (hv : (firingValve m u).getLsbD v = true) : descAt m.valve v = some .active := by
  have hbit {k : Nat} (hk : (valveBit k).getLsbD v = true) : v = k := by
    simp only [valveBit, BitVec.getLsbD_twoPow, Bool.and_eq_true, decide_eq_true_eq] at hk
    exact hk.2.symm
  have hu := descAt_fin m.valve u
  unfold firingValve at hv
  split at hv <;> rename_i hd <;> rw [hd] at hu
  · rw [hbit hv]; exact hu
  · rw [hbit hv]; exact (h.left _ hu).2
  · rw [hbit hv]; exact h.right _ hu
  · simp at hv

/-- Settles O16. -/
theorem valveSetsHoldActiveValves : Obligations.ValveSetsHoldActiveValves := by
  intro m margin laneLo laneHi hm v hv
  have hunion := getLsbD_foldl_union
    (fun u : Fin 64 => decide ((laneLo - margin) / 4 ≤ u.val) && decide (u.val ≤ min 255 (laneHi + margin) / 4))
    (firingValve m) (List.finRange 64) 0 v
  obtain hz | ⟨u, -, -, hu⟩ := hunion.1 hv
  · simp at hz
  · obtain ⟨_, hd⟩ := descAt_eq_some.1 (getLsbD_firingValve (mapLaw_iff.1 hm) hu)
    exact hd

end Sys2Proof.Machine
end

/-! ### Starting a frame (R77, R84 to R86) -/

section
namespace Sys2Proof.Machine

set_option Elab.async false

theorem runGrownTo_of_le {run r : Nat} {s : State} (h : s.link.run = some r) (hle : r ≤ run) : runGrownTo run s = true := by
  simp [runGrownTo, h, hle]

theorem exec_startOfFrame_offline {run : Nat} {s : State} (h : s.link.state = .offline) :
    exec (.startOfFrame run) s = .next s := by
  change execStartOfFrame run s = _
  simp [execStartOfFrame, h]

/-- Settles O18. -/
theorem startOfFrameLatchesTheBeltCount : Obligations.StartOfFrameLatchesTheBeltCount := by
  intro s run hrun
  refine ⟨exec_startOfFrame_offline, fun r hlink hidle hr hle => ⟨?_, ?_⟩, fun x hlink hstart hx => ?_⟩
  · change execRequiredCountLowered run s = _
    rw [execRequiredCountLowered, if_pos (by simp [hlink, hidle, runGrownTo_of_le hr hle])]
    rfl
  · change execStartOfFrame run s = _
    rw [execStartOfFrame, if_neg (by simp [hlink, Nat.not_lt.2 hrun]), hidle]
    exact if_pos (runGrownTo_of_le hr hle)
  · change execStartOfFrame run s = _
    have hsend : sendingSlot s = some x := hx
    rw [execStartOfFrame, if_neg (by simp [hlink, Nat.not_lt.2 hrun]), hstart]
    simp only [hsend]
    rfl

/-- The eligible slots of a class in age order: the oldest is found (R86). -/
theorem find_eligible {cls : AccessClass} {run : Nat} {s : State} {older newer : List Slot} {x : Slot}
    (hx : eligible cls run s x = true) (holder : ∀ y ∈ older, eligible cls run s y = false) :
    (older ++ x :: newer).find? (eligible cls run s) = some x := by
  rw [List.find?_append, List.find?_eq_none.2 fun y hy => by simp [holder y hy], Option.none_or,
    List.find?_cons_of_pos hx]

/-- The slot of lowest class, in it the oldest, is the one chosen (R86). -/
theorem chosenSlot_eq {run : Nat} {s : State} {older newer : List Slot} {x : Slot}
    (hslots : s.link.slots = older ++ x :: newer) (hx : eligible (noticeClass x.notice) run s x = true)
    (holder : ∀ y ∈ older, ∀ cls, eligible cls run s y = true → classCode (noticeClass x.notice) < classCode cls)
    (hnewer : ∀ y ∈ newer, ∀ cls, eligible cls run s y = true → classCode (noticeClass x.notice) ≤ classCode cls) :
    chosenSlot run s = some x := by
  have hclass {y : Slot} {cls : AccessClass} (h : eligible cls run s y = true) : noticeClass y.notice = cls := by
    simp only [eligible, Bool.and_eq_true, decide_eq_true_eq] at h
    exact h.1.2
  have hfind : s.link.slots.find? (eligible (noticeClass x.notice) run s) = some x := by
    rw [hslots]
    refine find_eligible hx fun y hy => ?_
    by_contra h
    exact absurd (holder y hy _ (by simpa using h)) (by omega)
  have hnone (cls : AccessClass) (hlow : classCode cls < classCode (noticeClass x.notice)) :
      s.link.slots.find? (eligible cls run s) = none := by
    rw [List.find?_eq_none, hslots]
    intro y hy h
    obtain hy | rfl | hy := by simpa using hy
    · exact absurd (holder y hy _ h) (by omega)
    · rw [hclass h] at hlow; omega
    · exact absurd (hnewer y hy _ h) (by omega)
  unfold chosenSlot
  cases hcls : noticeClass x.notice
  case urgent => rw [hcls] at hfind; rw [hfind]
  case normal =>
    rw [hcls] at hfind
    rw [hnone .urgent (by rw [hcls]; decide), hfind]
  case routine =>
    rw [hcls] at hfind
    rw [hnone .urgent (by rw [hcls]; decide), hnone .normal (by rw [hcls]; decide), hfind]

theorem eligible_iff {cls : AccessClass} {run : Nat} {s : State} {x : Slot} :
    eligible cls run s x = true ↔ x.status = .pending ∧ noticeClass x.notice = cls ∧ requiredOf cls s ≤ run := by
  simp [eligible, and_assoc]

theorem startFrame_eq (x : Slot) (s : State) :
    startFrame x s
      = { s with
          belt.frameLatch := s.belt.count
          link.run := some 0
          link.frame := .starting
          link.slots :=
            s.link.slots.map fun y =>
              if y.handle = x.handle then { y with status := .sending, latch := some s.belt.count } else y
          link.txFrame := frameBytes (prof s).node (fillNotice (prof s).datum s.belt.count x.notice) } := by
  have hslots : ((s.link.slots.map fun y => if y.handle = x.handle then { y with status := SlotStatus.sending } else y).map
        fun y => if y.handle = x.handle then { y with latch := some s.belt.count } else y)
      = s.link.slots.map fun y =>
          if y.handle = x.handle then { y with status := .sending, latch := some s.belt.count } else y := by
    rw [List.map_map]
    refine List.map_congr_left fun y _ => ?_
    by_cases h : y.handle = x.handle <;> simp [h]
  rw [← hslots]
  rfl

/-- Settles O19. -/
theorem quietLineStartsTheFirstEligibleSlot : Obligations.QuietLineStartsTheFirstEligibleSlot := by
  intro s run r u hidle hr hle hu
  have hobserve : observeRun run s = u := hu.symm
  have hrun := runGrownTo_of_le hr hle
  have hexec (hactive : s.link.state = .active) : exec (.slotStart run) s
      = match chosenSlot run u with
        | none => .next u
        | some x => .next (startFrame x u) := by
    change execSlotStart run s = _
    rw [execSlotStart, if_pos (by simp [hactive, hidle, hrun]), hobserve] <;> rfl
  have hslots : u.link.slots = s.link.slots := by rw [hu]
  refine ⟨fun hlink => ?_, fun hactive hnone => ?_, fun older x newer hactive hsplit hpend hmeets holder hnewer => ?_⟩
  · change execSlotStart run s = _
    rw [execSlotStart, if_neg (by simp [hlink])]
  · have hnone' (cls : AccessClass) : u.link.slots.find? (eligible cls run u) = none := by
      rw [List.find?_eq_none, hslots]
      intro y hy h
      obtain ⟨hp, hc, hq⟩ := eligible_iff.1 h
      obtain hn | hn := hnone y hy
      · exact hn hp
      · rw [hc] at hn; omega
    rw [hexec hactive, chosenSlot, hnone', hnone', hnone']
  · have hchosen : chosenSlot run u = some x := by
      refine chosenSlot_eq (hslots.trans hsplit) (eligible_iff.2 ⟨hpend, rfl, hmeets⟩) (fun y hy cls h => ?_)
        fun y hy cls h => ?_
      · obtain ⟨hp, rfl, hq⟩ := eligible_iff.1 h
        exact holder y hy hp hq
      · obtain ⟨hp, rfl, hq⟩ := eligible_iff.1 h
        exact hnewer y hy hp hq
    rw [hexec hactive, hchosen]
    refine congrArg _ ((startFrame_eq x u).trans ?_)
    rw [hu]
    rfl

end Sys2Proof.Machine
end

/-! ### The end of an attempt (R87, R94, R95) -/

section
namespace Sys2Proof.Machine

set_option Elab.async false

theorem driving_iff (s : State) : driving s = true ↔ s.link.frame = .starting ∨ s.link.frame = .sending := by
  simp [driving]

/-- The state in which a station has become a receiver of the frame it was sending (R87). -/
def receiving (s : State) : State := { s with link.frame := .receiving, link.txFrame := [] }

theorem exec_arbitrationLost {s : State} {x : Slot} (hframe : s.link.frame = .starting ∨ s.link.frame = .sending)
    (hx : s.link.slots.find? (fun y => y.status ≠ .pending) = some x) :
    exec .arbitrationLost s = .next (syncBar (returnSlot x (receiving s))) := by
  have hsend : sendingSlot s = some x := hx
  change execArbitrationLost s = _
  rw [execArbitrationLost, hsend]
  exact if_pos ((driving_iff s).2 hframe)

theorem deadlinePassed_eq_false {x : Slot} {s : State} (hmet : x.deadlineMet = false)
    (hahead : ∀ d, x.deadline = some d → reached s d = false) : deadlinePassed x s = false := by
  rw [deadlinePassed, hmet, Bool.false_or]
  cases hd : x.deadline with
  | none => rfl
  | some d => exact hahead d hd

theorem examineIf_none (s : State) : examineIf (s, none) = s := rfl

/-- The end of an addition that is no CLAIM: the slot is free and the outcome goes to its requester (R96). -/
theorem endSlot_of_notice {x : Slot} (o : TxOutcome) (s : State) (h : ∀ id c, x.notice ≠ .claim id c) :
    endSlot x o s = (noticeOutcome x.notice ⟨o, x.latch⟩ (removeSlot x.handle s), none) := by
  unfold endSlot
  split
  · rename_i hn
    exact absurd hn (h _ _)
  · rfl

theorem endAndExamine_of_notice {x : Slot} (o : TxOutcome) (s : State) (h : ∀ id c, x.notice ≠ .claim id c) :
    examineIf (endSlot x o s) = noticeOutcome x.notice ⟨o, x.latch⟩ (removeSlot x.handle s) := by
  rw [endSlot_of_notice o s h, examineIf_none]

/-- Settles O20. -/
theorem lostArbitrationReturnsTheSlot : Obligations.LostArbitrationReturnsTheSlot := by
  intro s x hbar hframe hx
  rw [exec_arbitrationLost hframe hx]
  refine ⟨fun hsend hmet hahead => ?_, fun h hcancel hbeat => ?_, fun c i hsend hfired hmet => ?_⟩
  · rw [returnSlot, if_neg (by simp [hsend]),
      if_neg (by rw [deadlinePassed_eq_false (s := receiving s) hmet hahead]; decide)]
    exact congrArg _ (syncBar_of_inStep hbar)
  · rw [returnSlot, if_pos hcancel, endAndExamine_of_notice _ _ (by simp [hbeat]), hbeat]
    exact congrArg _ (syncBar_of_inStep hbar)
  · rw [returnSlot, if_neg (by simp [hsend]), if_pos (by simp [deadlinePassed, hmet]),
      endAndExamine_of_notice _ _ (by simp [hfired]), hfired]
    exact congrArg _ (syncBar_of_inStep hbar)

end Sys2Proof.Machine
end

/-! ### Slots of a link that takes no adds (R91, R93) -/

section
namespace Sys2Proof.Machine

set_option Elab.async false

/-- Only slots held before are PENDING, as on a link that takes no adds. -/
structure NoNewPending (s t : State) : Prop where
  link : t.link.state = s.link.state := by rfl
  slots : acceptsAdds s = false → ∀ y ∈ t.link.slots, y.status = .pending → y ∈ s.link.slots := by exact fun _ _ h _ => h

theorem NoNewPending.refl (s : State) : NoNewPending s s := {}

theorem acceptsAdds_of_link {s t : State} (h : t.link.state = s.link.state) : acceptsAdds t = acceptsAdds s := by
  simp only [acceptsAdds, h]

theorem NoNewPending.trans {a b c : State} (h : NoNewPending a b) (k : NoNewPending b c) : NoNewPending a c where
  link := k.link.trans h.link
  slots hoff y hy hp := h.slots hoff y (k.slots ((acceptsAdds_of_link h.link).trans hoff) y hy hp) hp

/-- A change that leaves the link as it was, on either side. -/
theorem NoNewPending.of_link {a b : State} (h : b.link = a.link := by rfl) : NoNewPending a b where
  link := by rw [h]
  slots _ y hy _ := by rwa [h] at hy

theorem NoNewPending.foldl {α : Type} {f : State → α → State} (hf : ∀ a x, NoNewPending a (f a x)) (l : List α) (s : State) :
    NoNewPending s (l.foldl f s) := by
  induction l generalizing s with
  | nil => exact .refl s
  | cons x xs ih => exact (hf s x).trans (ih _)

theorem removeSlot_noNewPending (h : Nat) (s : State) : NoNewPending s (removeSlot h s) where
  slots _ _ hy _ := List.mem_of_mem_filter hy

theorem noticeOutcome_link (n : Notice) (r : TxReport) (s : State) : (noticeOutcome n r s).link = s.link := by
  unfold noticeOutcome pieceOutcome
  repeat' split
  all_goals rfl

theorem noticeOutcome_noNewPending (n : Notice) (r : TxReport) (s : State) : NoNewPending s (noticeOutcome n r s) :=
  .of_link (noticeOutcome_link n r s)

theorem slotAdd_of_acceptsAdds {s : State} (n : Notice) (d : Option Count) (h : acceptsAdds s = false) :
    slotAdd n d s = none := by
  simp [slotAdd, roomForAdd, h]

theorem link_of_spine {s t : State} (h : spine t = spine s) : t.link.state = s.link.state := by
  have hs := congrArg (fun a : State => a.link.state) h
  exact hs

theorem addNotice_noNewPending (n : Notice) (d : Option Count) {refused : State → State}
    (hr : ∀ a, spine (refused a) = spine a) (hl : ∀ a, (refused a).link = a.link) (s : State) :
    NoNewPending s (addNotice n d refused s) where
  link := link_of_spine (addNotice_spine n d refused hr s)
  slots hoff y hy _ := by
    rw [addNotice, slotAdd_of_acceptsAdds n d hoff] at hy
    rwa [← hl s]

theorem linkCleared_noNewPending (k : Nat) (s : State) : NoNewPending s (linkCleared k s) := by
  have hempty (a : State) : NoNewPending a (scheduleEmptied a) := by
    unfold scheduleEmptied startStandbyTimer
    repeat' split
    all_goals exact .of_link
  unfold linkCleared
  refine NoNewPending.trans ?_ (hempty _)
  split
  · exact .refl s
  · split
    · split <;> exact .of_link
    · exact .refl s

theorem putOutcome_noNewPending (r : OutcomeRecord) (s : State) : NoNewPending s (putOutcome r s) := by
  unfold putOutcome
  split <;> exact .of_link

theorem leave_noNewPending (e : Entry) (r : Result) {tell : State → State} (ht : ∀ a, NoNewPending a (tell a)) (s : State) :
    NoNewPending s (leave e r tell s) := by
  unfold leave
  split
  · exact .of_link
  · have hput (o : OutcomeRecord) : NoNewPending s (putOutcome o (removeEntry e.track s)) :=
      NoNewPending.trans .of_link (putOutcome_noNewPending _ _)
    have hrec (id : PieceId) (vs : ValveSet) (a : State) : NoNewPending a (recordFiring id vs a) := by
      unfold recordFiring
      split <;> exact .of_link
    have hfired (t : Track) (a : State) : NoNewPending a (requestFired e t a) :=
      addNotice_noNewPending _ _ (refused := countUnsent) (fun _ => rfl) (fun _ => rfl) a
    refine NoNewPending.trans ?_ (linkCleared_noNewPending _ _)
    refine NoNewPending.trans ?_ (ht _)
    split
    · exact (hput _).trans ((hrec _ _ _).trans (hfired _ _))
    · exact hput _

theorem dropEntry_noNewPending (k : Nat) (r : Result) (s : State) : NoNewPending s (dropEntry k r s) := by
  unfold dropEntry
  split
  · exact .refl s
  · exact leave_noNewPending _ _ .refl s

theorem closeEntry_noNewPending (e : Entry) (r : Result) (cut : Bool) (s : State) :
    NoNewPending s (closeEntry e r cut s) :=
  NoNewPending.trans .of_link (leave_noNewPending _ _ .refl _)

theorem interruptAll_noNewPending (s : State) : NoNewPending s (interruptAll s) :=
  NoNewPending.foldl (fun _ _ => closeEntry_noNewPending _ _ _ _) _ s

theorem claimOutcome_noNewPending (h : Nat) (r : TxReport) (s : State) : NoNewPending s (claimOutcome h r s).1 := by
  unfold claimOutcome
  split
  · exact .refl s
  split
  · split <;> exact .of_link
  · dsimp only
    split
    · exact .of_link
    · exact .of_link
    · exact NoNewPending.trans .of_link (dropEntry_noNewPending _ _ _)

theorem endSlot_noNewPending (x : Slot) (o : TxOutcome) (s : State) : NoNewPending s (endSlot x o s).1 := by
  unfold endSlot
  split
  · exact (removeSlot_noNewPending _ s).trans (claimOutcome_noNewPending _ _ _)
  · exact (removeSlot_noNewPending _ s).trans (noticeOutcome_noNewPending _ _ _)

theorem cancelSlot_noNewPending (h : Nat) (s : State) : NoNewPending s (cancelSlot h s).1 := by
  unfold cancelSlot
  split
  · exact .refl s
  split
  · exact endSlot_noNewPending _ _ s
  · refine { slots := fun _ y hy hp => ?_ }
    obtain ⟨z, hz, rfl⟩ := List.mem_map.1 hy
    by_cases hh : z.handle = h
    · rw [if_pos hh] at hp; cases hp
    · rwa [if_neg hh]
  · exact .refl s

theorem schedulerGaveUp_noNewPending (k : Nat) (why : GiveUp) (s : State) : NoNewPending s (schedulerGaveUp k why s) := by
  unfold schedulerGaveUp
  split
  · exact .refl s
  · split
    · exact .refl s
    · exact NoNewPending.trans .of_link (cancelSlot_noNewPending _ _)

theorem requestRelease_noNewPending (k : Nat) (why : ReleaseReason) (s : State) :
    NoNewPending s (requestRelease k why s) := by
  unfold requestRelease
  split
  · exact .refl s
  · exact NoNewPending.trans .of_link
      (addNotice_noNewPending _ _ (refused := countUnsent) (fun _ => rfl) (fun _ => rfl) _)

theorem schedulerEnds_noNewPending (e : Entry) (r : Result) (why : GiveUp) (s : State) :
    NoNewPending s (schedulerEnds e r why s) := by
  unfold schedulerEnds
  split
  · exact leave_noNewPending _ _ (schedulerGaveUp_noNewPending _ _) s
  · exact leave_noNewPending _ _ (requestRelease_noNewPending _ _) s
  · exact leave_noNewPending _ _ .refl s

theorem supplyTo_noNewPending (new : Supply) (s : State) : NoNewPending s (supplyTo new s) := by
  unfold supplyTo supplyReaction
  split
  · exact .refl s
  split
  · exact .of_link
  · exact .of_link
  · exact NoNewPending.trans .of_link ((NoNewPending.foldl (fun _ _ => schedulerEnds_noNewPending _ _ _ _) _ _).trans
      (interruptAll_noNewPending _))
  · exact NoNewPending.trans .of_link (interruptAll_noNewPending _)
  · exact NoNewPending.trans .of_link (interruptAll_noNewPending _)

theorem supplyRequested_noNewPending (s : State) : NoNewPending s (supplyRequested s) := by
  have hcharged (a : State) : NoNewPending a (chargedUp a) := by
    have h : NoNewPending a (supplyTo .ready { a with air.chargeTimer := none }) :=
      NoNewPending.trans .of_link (supplyTo_noNewPending _ _)
    have hstart (b : State) : NoNewPending b (startStandbyTimer b) := by
      unfold startStandbyTimer
      split <;> exact .of_link
    unfold chargedUp
    dsimp only
    split
    · exact h.trans (hstart _)
    · exact h
  unfold supplyRequested
  split
  · have hto := supplyTo_noNewPending .charging s
    dsimp only
    split
    · exact NoNewPending.trans hto (NoNewPending.trans .of_link (hcharged _))
    · exact NoNewPending.trans hto .of_link
  · exact .refl s

theorem requestEntry_noNewPending (t : Track) (c : ClassCode) (s : State) : NoNewPending s (requestEntry t c s).1 := by
  have hadmit (e : Entry) (a : State) : NoNewPending a (admitEntry e a) := by
    unfold admitEntry
    split <;> exact .of_link
  have hdisplace (a : State) (e : Entry) : NoNewPending a (displace a e) :=
    NoNewPending.trans .of_link (schedulerEnds_noNewPending _ _ _ _)
  have hadmission (w : Window) (vs : ValveSet) (a : State) : NoNewPending a (admission t c w vs a).1 := by
    unfold admission
    dsimp only
    split
    · exact .of_link
    · refine NoNewPending.trans ?_ (hadmit _ _)
      exact NoNewPending.trans (NoNewPending.foldl hdisplace _ a) .of_link
  have hsupply := supplyRequested_noNewPending s
  unfold requestEntry
  dsimp only
  repeat' split
  all_goals first | exact hsupply | exact hsupply.trans (hadmission _ _ _)

theorem claimRequest_noNewPending (t : Track) (c : ClassCode) (s : State) : NoNewPending s (claimRequest t c s) := by
  have hadd (o : Count) (a : State) : NoNewPending a (addClaim t c o a) := by
    refine ⟨link_of_spine (addClaim_spine t c o a), fun hoff => ?_⟩
    rw [addClaim, slotAdd_of_acceptsAdds _ _ hoff]
    exact (dropEntry_noNewPending _ _ a).slots hoff
  have hrequest := requestEntry_noNewPending t c s
  unfold claimRequest
  split <;> rename_i heq <;> rw [heq] at hrequest
  · exact hrequest.trans (putOutcome_noNewPending _ _)
  · exact hrequest.trans (hadd _ _)

theorem examineIf_noNewPending (r : State × Option Nat) : NoNewPending r.1 (examineIf r) := by
  have hexamine (k : Nat) (s : State) : NoNewPending s (examine k s) := by
    unfold examine
    split
    · exact .refl s
    split
    · exact .refl s
    split
    · exact .refl s
    · exact .of_link
    split
    · split
      · exact claimRequest_noNewPending _ _ s
      · exact .refl s
    · split <;> exact .of_link
  unfold examineIf
  split
  · exact .refl _
  · exact hexamine _ _

theorem silenceSlot_noNewPending (s : State) (x : Slot) : NoNewPending s (silenceSlot s x) :=
  (endSlot_noNewPending _ _ s).trans (examineIf_noNewPending _)

/-- A slot that has ended is held no longer (R96). -/
theorem silenceSlot_removes {s : State} (hoff : acceptsAdds s = false) {x y : Slot} (hy : y ∈ (silenceSlot s x).link.slots)
    (hp : y.status = .pending) : y.handle ≠ x.handle := by
  have hend : NoNewPending (removeSlot x.handle s) (silenceSlot s x) := by
    refine NoNewPending.trans ?_ (examineIf_noNewPending _)
    unfold endSlot
    split
    · exact claimOutcome_noNewPending _ _ _
    · exact noticeOutcome_noNewPending _ _ _
  have hmem := hend.slots hoff y hy hp
  simpa using (List.mem_filter.1 hmem).2

/-- Silencing every PENDING slot leaves none (R91). -/
theorem foldl_silenceSlot_pending {l : List Slot} {s : State} (hoff : acceptsAdds s = false)
    (hl : ∀ y ∈ s.link.slots, y.status = .pending → y ∈ l) : ∀ y ∈ (l.foldl silenceSlot s).link.slots, y.status ≠ .pending := by
  induction l generalizing s with
  | nil => exact fun y hy hp => absurd (hl y hy hp) (by simp)
  | cons x xs ih =>
    have hstep := silenceSlot_noNewPending s x
    refine ih ((acceptsAdds_of_link hstep.link).trans hoff) fun y hy hp => ?_
    obtain rfl | hmem := List.mem_cons.1 (hl y (hstep.slots hoff y hy hp) hp)
    · exact absurd rfl (silenceSlot_removes hoff hy hp)
    · exact hmem

end Sys2Proof.Machine
end

/-! ### Bit errors and duplicates: the link falls silent (R83, R88, R91) -/

section
namespace Sys2Proof.Machine

set_option Elab.async false

/-- A state whose link has just fallen silent, its timers stopped (R91, R115). -/
def silenced (cause : SilentCause) (s : State) : State :=
  { s with link.state := .silent cause, link.listeningTimer := none, members.heartbeatTimer := none }

theorem linkSilent_eq (cause : SilentCause) (s : State) :
    linkSilent cause s
      = (s.link.slots.filter fun x => x.status = .pending).foldl silenceSlot (raiseFlag .linkSilent (silenced cause s)) := rfl

theorem linkSilent_spine (cause : SilentCause) (s : State) : spine (linkSilent cause s) = spine (silenced cause s) :=
  (foldl_spine _ (fun _ _ => endAndExamine_spine _ _ _) _ _).trans rfl

theorem linkSilent_flag (cause : SilentCause) (s : State) : (linkSilent cause s).port.flags.getLsbD 6 = true := by
  have hquiet : quietFlags (linkSilent cause s) = quietFlags (raiseFlag .linkSilent (silenced cause s)) :=
    foldl_quietFlags (fun _ _ => (examineIf_quietFlags _).trans (endSlot_quietFlags _ _ _)) _ _
  exact (getLsbD_of_quietFlags hquiet (by decide)).trans (raiseFlag_getLsbD_flagBit .linkSilent _)

theorem linkSilent_pending (cause : SilentCause) (s : State) :
    ∀ y ∈ (linkSilent cause s).link.slots, y.status ≠ .pending := by
  rw [linkSilent_eq]
  refine foldl_silenceSlot_pending rfl fun y hy hp => ?_
  exact List.mem_filter.2 ⟨hy, by simpa using hp⟩

/-- The state in which a bit error has ended the attempt, before the slot is dealt with (R88). -/
def attemptFailed (s : State) : State :=
  { s with
    link.frame := .receivingAbandoned
    link.txFrame := []
    link.consecutiveFailures := s.link.consecutiveFailures + 1 }

theorem exec_bitError {s : State} {x : Slot} (hframe : s.link.frame = .starting ∨ s.link.frame = .sending)
    (hx : s.link.slots.find? (fun y => y.status ≠ .pending) = some x) :
    exec .bitError s
      = .next (syncBar
          (if 16 ≤ s.link.consecutiveFailures + 1 then linkSilent .failures (failSlot x (attemptFailed s))
          else failSlot x (attemptFailed s))) := by
  have hsend : sendingSlot s = some x := hx
  change execBitError s = _
  rw [execBitError, hsend]
  exact if_pos ((driving_iff s).2 hframe)

/-- Settles O21. -/
theorem bitErrorsFailTheSlotAndSilenceTheLink : Obligations.BitErrorsFailTheSlotAndSilenceTheLink := by
  intro s x hbar hframe hx
  rw [exec_bitError hframe hx]
  refine ⟨fun hsend hfailed hmet hahead hfew => ?_, fun id ch res hsend hconfirm hthird hfew => ?_, fun hmany => ?_⟩
  · rw [if_neg (by omega), failSlot]
    dsimp only
    rw [if_neg (by simp [hsend]), if_neg (by omega),
      if_neg (by rw [deadlinePassed_eq_false (s := attemptFailed s) hmet hahead]; decide)]
    exact congrArg _ (syncBar_of_inStep hbar)
  · rw [if_neg (by omega), failSlot]
    dsimp only
    rw [if_neg (by simp [hsend]), if_pos (by omega), endAndExamine_of_notice _ _ (by simp [hconfirm]), hconfirm]
    exact congrArg _ (syncBar_of_inStep hbar)
  · rw [if_pos (by omega)]
    refine ⟨_, rfl, ?_⟩
    have hspine : spine (linkSilent .failures (failSlot x (attemptFailed s))) = spine (silenced .failures (attemptFailed s)) :=
      (linkSilent_spine _ _).trans (congrArg (silenced .failures) (failSlot_spine x _))
    have hlink := congrArg (fun a : State => a.link) hspine
    have hmembers := congrArg (fun a : State => a.members.heartbeatTimer) hspine
    have haccept := congrArg (fun a : State => a.accept) hspine
    have hbelt := belt_of_spine hspine
    simp only [syncBar_frame]
    exact ⟨congrArg Link.state hlink, congrArg Link.listeningTimer hlink, hmembers, linkSilent_flag _ _,
      congrArg Link.consecutiveFailures hlink, linkSilent_pending _ _, hbelt, haccept⟩

end Sys2Proof.Machine
end

/-! ### Receiving a frame (R80 to R83, R103 to R113) -/

section
namespace Sys2Proof.Machine

set_option Elab.async false

theorem exec_frameReceived {s : State} (bytes : List Byte) (hlink : s.link.state ≠ .offline)
    (hframe : s.link.frame = .receiving ∨ s.link.frame = .receivingAbandoned) :
    exec (.frameReceived bytes) s = .next (syncBar (frameOver (runAfter bytes) (takeFrame bytes s))) := by
  change execFrameReceived bytes s = _
  rw [execFrameReceived, if_pos (by simpa [hlink, receivingFrame] using hframe)]

theorem exec_frameDiscarded {s : State} (cause : DiscardCause) (run : Nat) (hlink : s.link.state ≠ .offline)
    (hframe : s.link.frame = .receiving ∨ s.link.frame = .receivingAbandoned) :
    exec (.frameDiscarded cause run) s = .next (frameOver run (countReceiveError s)) := by
  change execFrameDiscarded cause run s = _
  rw [execFrameDiscarded, if_pos (by simpa [hlink, receivingFrame] using hframe)]

theorem takeFrame_bad {bytes : List Byte} {s : State} (h : frameGood bytes = false) :
    takeFrame bytes s = countReceiveError s := by
  simp [takeFrame, h]

theorem takeFrame_unknown {bytes : List Byte} {s : State} (h : frameGood bytes = true)
    (hkind : knownKind (headerOf bytes).kind = false) :
    takeFrame bytes s = { s with link.unknownKind := bump s.link.unknownKind } := by
  simp [takeFrame, h, hkind]

theorem knownKind_iff (kind : Nat) : knownKind kind = true ↔ 1 ≤ kind ∧ kind ≤ 6 := by
  simp [knownKind]

theorem takeFrame_known {bytes : List Byte} {s : State} (h : frameGood bytes = true)
    (hkind : 1 ≤ (headerOf bytes).kind ∧ (headerOf bytes).kind ≤ 6) :
    takeFrame bytes s
      = takeNotice (headerOf bytes) ((bytes.drop 2).take (headerOf bytes).length)
          (if (headerOf bytes).origin = (prof s).node then countDuplicate s else s) := by
  simp [takeFrame, h, (knownKind_iff _).2 hkind]

theorem frameOver_syncBar {run : Nat} {s : State} (h : BarInStep s) : syncBar (frameOver run s) = frameOver run s :=
  syncBar_of_inStep h

/-- Settles O24. -/
theorem rejectedFramesAreCounted : Obligations.RejectedFramesAreCounted := by
  intro s bytes cause run hbar hlink
  refine ⟨fun hframe => ?_, fun hframe => ?_, fun hframe hbad => ?_, fun hframe hgood hkind => ?_,
    fun hframe hgood hkind horigin hwire => ?_⟩
  · rw [exec_frameDiscarded cause run hlink (.inl hframe), countReceiveError, if_neg (by simp [hframe])]
    rfl
  · rw [exec_frameDiscarded cause run hlink (.inr hframe), countReceiveError, if_pos hframe]
    rfl
  · rw [exec_frameReceived bytes hlink (.inl hframe), takeFrame_bad hbad, countReceiveError, if_neg (by simp [hframe])]
    exact congrArg _ (frameOver_syncBar hbar)
  · have hunknown : knownKind (headerOf bytes).kind = false := by
      rw [← Bool.not_eq_true, knownKind_iff]; omega
    rw [exec_frameReceived bytes hlink (.inl hframe), takeFrame_unknown hgood hunknown]
    exact congrArg _ (frameOver_syncBar hbar)
  · rw [exec_frameReceived bytes hlink (.inl hframe), takeFrame_known hgood hkind, if_neg horigin, takeNotice, hwire]
    exact congrArg _ (frameOver_syncBar hbar)

/-- What handing on a notice of another block may change, when the notice is not this station's own: the queues, the mode and
the flags other than LINK_SILENT (R103 to R113). -/
def HandedOn (s t : State) : Prop :=
  ∃ accept mode counter flags,
    t = { s with accept := accept, engine.mode := mode, engine.returnCounter := counter, port.flags := flags }
      ∧ flags.getLsbD 6 = s.port.flags.getLsbD 6

theorem queueNotice_handedOn {e : QueueEntry} (hown : e.own = false) (s : State) : HandedOn s (queueNotice e s) := by
  unfold queueNotice
  split
  · unfold joinUrgent
    split
    · exact ⟨_, _, _, _, rfl, rfl⟩
    · rw [hown]
      exact ⟨_, _, _, _, rfl, rfl⟩
  · unfold joinGeneral modeToQuick
    dsimp only
    repeat' split
    all_goals exact ⟨_, _, _, _, rfl, rfl⟩
  · exact ⟨_, _, _, _, rfl, rfl⟩

theorem takeNotice_handedOn {h : Header} {s : State} (body : List Byte) (horigin : h.origin = (prof s).node) :
    HandedOn s (takeNotice h body s) := by
  unfold takeNotice
  split
  · exact ⟨_, _, _, _, rfl, rfl⟩
  · rw [takeHeartbeat, if_pos horigin]
    exact ⟨_, _, _, _, rfl, rfl⟩
  · unfold judgeNotice
    dsimp only
    split
    · exact queueNotice_handedOn rfl s
    · exact ⟨_, _, _, _, rfl, rfl⟩
    · obtain ⟨a, m, c, f, heq, hf⟩ := queueNotice_handedOn
        (e := { wire := ‹Wire›, origin := h.origin, latch := s.belt.frameLatch, own := false }) rfl (raiseFlag .watch s)
      refine ⟨a, m, c, f, heq, hf.trans ?_⟩
      simp [raiseFlag, flagWord, flagBit]

theorem countDuplicate_of_accepting {s : State} (h : s.link.state = .listening ∨ s.link.state = .active) :
    countDuplicate s = linkSilent .duplicate { s with link.duplicates := bump s.link.duplicates } :=
  if_pos (by simpa [acceptsAdds] using h)

theorem countDuplicate_of_silent {s : State} {cause : SilentCause} (h : s.link.state = .silent cause) :
    countDuplicate s = { s with link.duplicates := bump s.link.duplicates } :=
  if_neg (by simp [acceptsAdds, h])

/-- Settles O25. -/
theorem duplicatesSilenceTheLink : Obligations.DuplicatesSilenceTheLink := by
  intro s bytes hframe hgood hkind horigin
  refine ⟨fun hlink => ?_, fun cause hlink => ?_⟩
  · have hoffline : s.link.state ≠ .offline := by obtain h | h := hlink <;> simp [h]
    refine ⟨_, exec_frameReceived bytes hoffline hframe, ?_⟩
    rw [takeFrame_known hgood hkind, if_pos horigin, countDuplicate_of_accepting hlink]
    set u := linkSilent .duplicate { s with link.duplicates := bump s.link.duplicates } with hu
    have hspine : spine u = spine (silenced .duplicate { s with link.duplicates := bump s.link.duplicates }) :=
      linkSilent_spine _ _
    have hlink' := congrArg (fun a : State => a.link) hspine
    have htimer := congrArg (fun a : State => a.members.heartbeatTimer) hspine
    have hpeers := congrArg (fun a : State => a.members.peers) hspine
    obtain ⟨a, m, c, f, heq, hf⟩ := takeNotice_handedOn ((bytes.drop 2).take (headerOf bytes).length)
      (horigin.trans (congrArg Profile.node (prof_of_spine hspine)).symm)
    rw [heq]
    simp only [syncBar_frame, frameOver]
    exact ⟨congrArg Link.state hlink', congrArg Link.listeningTimer hlink', htimer, hf.trans (linkSilent_flag _ _),
      congrArg Link.duplicates hlink', linkSilent_pending _ _, hpeers⟩
  · refine ⟨_, exec_frameReceived bytes (by simp [hlink]) hframe, ?_⟩
    rw [takeFrame_known hgood hkind, if_pos horigin, countDuplicate_of_silent hlink]
    obtain ⟨a, m, c, f, heq, hf⟩ := takeNotice_handedOn (s := { s with link.duplicates := bump s.link.duplicates })
      ((bytes.drop 2).take (headerOf bytes).length) horigin
    rw [heq]
    simp only [syncBar_frame, frameOver]
    exact ⟨hlink, trivial, trivial⟩

end Sys2Proof.Machine
end

/-! ### Received notices in their queues (R106, R107, R110, R111, R113) -/

section
namespace Sys2Proof.Machine

set_option Elab.async false

/-- The QUICK notices counted after a notice of a peer has joined the general queue (R113). -/
def quickNoticesAfter (w : Wire) (s : State) : Tally :=
  match w with
  | .piece _ info => if info.mode = .quick then bump s.accept.quickNotice else s.accept.quickNotice
  | _ => s.accept.quickNotice

/-- A peer's notice in the queue of its kind, or dropped at a full one (R107, R110, R111, R113, R24). -/
def PeerNoticeQueued (e : QueueEntry) (s queued : State) : Prop :=
  wireClass e.wire = .urgent ∧ s.accept.urgent.length < 8
      ∧ queued = { s with accept.urgent := s.accept.urgent ++ [e] }
    ∨ wireClass e.wire = .urgent ∧ 8 ≤ s.accept.urgent.length
      ∧ queued = { s with accept.urgentDrop := bump s.accept.urgentDrop, accept.overrun := true }
    ∨ wireClass e.wire = .normal ∧ s.accept.general.length < 24
      ∧ queued
        = { s with
            accept.general := s.accept.general ++ [e]
            accept.quickNotice := quickNoticesAfter e.wire s
            engine :=
              if s.accept.general.length + 1 = (prof s).generalHigh then { s.engine with mode := .quick, returnCounter := 0 }
              else s.engine }
    ∨ wireClass e.wire = .normal ∧ 24 ≤ s.accept.general.length
      ∧ queued = { s with accept.generalDrop := bump s.accept.generalDrop }

theorem PeerNoticeQueued.raiseFlag {e : QueueEntry} {s queued : State} (f : Flag) (h : PeerNoticeQueued e s queued) :
    PeerNoticeQueued e (raiseFlag f s) (raiseFlag f queued) := by
  obtain ⟨hc, hl, rfl⟩ | ⟨hc, hl, rfl⟩ | ⟨hc, hl, rfl⟩ | ⟨hc, hl, rfl⟩ := h
  · exact .inl ⟨hc, hl, rfl⟩
  · exact .inr (.inl ⟨hc, hl, rfl⟩)
  · exact .inr (.inr (.inl ⟨hc, hl, rfl⟩))
  · exact .inr (.inr (.inr ⟨hc, hl, rfl⟩))

/-- A notice joins a general queue that has room (R24, R113). -/
theorem joinGeneral_of_room {e : QueueEntry} {s : State} (h : s.accept.general.length < 24) :
    joinGeneral e s
      = { s with
          accept.general := s.accept.general ++ [e]
          accept.quickNotice := if e.own then s.accept.quickNotice else quickNoticesAfter e.wire s
          engine :=
            if s.accept.general.length + 1 = (prof s).generalHigh then { s.engine with mode := .quick, returnCounter := 0 }
            else s.engine } := by
  have hfill (q : Tally) (u : State)
      (hu : u = { s with accept.general := s.accept.general ++ [e], accept.quickNotice := q }) :
      (if u.accept.general.length = (prof s).generalHigh then modeToQuick u else u)
        = { s with
            accept.general := s.accept.general ++ [e]
            accept.quickNotice := q
            engine :=
              if s.accept.general.length + 1 = (prof s).generalHigh then { s.engine with mode := .quick, returnCounter := 0 }
              else s.engine } := by
    have hlength : u.accept.general.length = s.accept.general.length + 1 := by rw [hu]; simp
    rw [hlength]
    split <;> rw [hu] <;> rfl
  rw [joinGeneral, if_pos h]
  refine hfill _ _ ?_
  dsimp only
  unfold quickNoticesAfter
  cases hown : e.own <;> cases e.wire <;> simp
  split <;> rfl

theorem joinGeneral_of_full {e : QueueEntry} {s : State} (h : 24 ≤ s.accept.general.length) :
    joinGeneral e s = { s with accept.generalDrop := bump s.accept.generalDrop } :=
  if_neg (Nat.not_lt.2 h)

theorem queueNotice_urgent {e : QueueEntry} (h : wireClass e.wire = .urgent) (s : State) :
    queueNotice e s = joinUrgent e s := by
  rw [queueNotice, h]

theorem queueNotice_normal {e : QueueEntry} (h : wireClass e.wire = .normal) (s : State) :
    queueNotice e s = joinGeneral e s := by
  rw [queueNotice, h]

theorem queueNotice_of_peer {e : QueueEntry} (hown : e.own = false) {s queued : State} (h : PeerNoticeQueued e s queued) :
    queueNotice e s = queued := by
  obtain ⟨hc, hl, rfl⟩ | ⟨hc, hl, rfl⟩ | ⟨hc, hl, rfl⟩ | ⟨hc, hl, rfl⟩ := h
  · rw [queueNotice_urgent hc]
    exact if_pos hl
  · rw [queueNotice_urgent hc, joinUrgent, if_neg (Nat.not_lt.2 hl), hown]
  · rw [queueNotice_normal hc, joinGeneral_of_room hl, hown]
    rfl
  · rw [queueNotice_normal hc, joinGeneral_of_full hl]

theorem takeNotice_of_notice {h : Header} {body : List Byte} {w : Wire} {s : State} (hw : wireOf h.cls h.kind body = some w)
    (hbeat : ∀ b, w ≠ .heartbeat b) : takeNotice h body s = judgeNotice h.origin w s := by
  unfold takeNotice
  split
  · rename_i hnone; rw [hnone] at hw; cases hw
  · rename_i hb; rw [hb] at hw; cases hw; exact absurd rfl (hbeat _)
  · rename_i hsome; rw [hsome] at hw; cases hw; rfl

theorem PeerNoticeQueued.sameBar {e : QueueEntry} {s queued : State} (h : PeerNoticeQueued e s queued) : SameBar queued s := by
  obtain ⟨-, -, rfl⟩ | ⟨-, -, rfl⟩ | ⟨-, -, rfl⟩ | ⟨-, -, rfl⟩ := h <;> exact {}

theorem listAction_of_split {list before after : List AcceptEntry} {e : AcceptEntry} {origin : Node} {w : Wire}
    (hsplit : list = before ++ e :: after) (hbefore : ∀ y ∈ before, entryMatches origin w y = false)
    (hmatch : entryMatches origin w e = true) : listAction list origin w = e.action := by
  have hfind : list.find? (entryMatches origin w) = some e := by
    rw [hsplit, List.find?_append, List.find?_eq_none.2 fun y hy => by simp [hbefore y hy], Option.none_or,
      List.find?_cons_of_pos hmatch]
  rw [listAction, hfind]

/-- Settles O23. -/
theorem receivedNoticesAreJudgedAndQueued : Obligations.ReceivedNoticesAreJudgedAndQueued := by
  intro s queued bytes w i hbar hlink hframe hgood horigin hkind hwire hbeat hi hqueued
  set e : QueueEntry := ⟨w, (headerOf bytes).origin, s.belt.frameLatch, false⟩ with he
  have hq : PeerNoticeQueued e s queued := hqueued
  have hexec : exec (.frameReceived bytes) s = .next (syncBar (i (judgeNotice (headerOf bytes).origin w s))) := by
    rw [exec_frameReceived bytes hlink (.inl hframe), takeFrame_known hgood hkind, if_neg horigin,
      takeNotice_of_notice hwire hbeat, hi]
    rfl
  have hsync {t : State} (ht : SameBar t s) : syncBar (i t) = i t := by
    rw [hi]
    exact syncBar_of_inStep (ht.inStep hbar)
  have haccept (hact : listAction (prof s).acceptance (headerOf bytes).origin w = .accept) :
      exec (.frameReceived bytes) s = .next (i queued) := by
    rw [hexec, judgeNotice, hact]
    exact congrArg _ ((congrArg (fun t => syncBar (i t)) (queueNotice_of_peer rfl hq)).trans (hsync hq.sameBar))
  refine ⟨fun hnone => haccept ?_, fun before a after hsplit hbefore hmatch => ?_⟩
  · rw [listAction, List.find?_eq_none.2 fun y hy => by simp [hnone y hy]]
  · have hact := listAction_of_split hsplit hbefore hmatch
    refine ⟨fun hdrop => ?_, fun hacc => haccept (hact.trans hacc), fun hwatch => ?_⟩
    · rw [hexec, judgeNotice, hact, hdrop]
      exact congrArg _ (hsync {})
    · rw [hexec, judgeNotice, hact, hwatch]
      refine congrArg _ ((congrArg (fun t => syncBar (i t)) (queueNotice_of_peer rfl (hq.raiseFlag .watch))).trans ?_)
      exact hsync (SameBar.trans (b := queued) {} hq.sameBar)

end Sys2Proof.Machine
end

/-! ### A completed own frame (R85, R89, R96, R97, R107, R110 to R112) -/

section
namespace Sys2Proof.Machine

set_option Elab.async false

/-- The state in which an own frame is over and its slot free, before the class's count is raised and the outcome given (R89). -/
def frameSent (x : Slot) (s : State) : State :=
  { s with
    link.frame := .idle
    link.txFrame := []
    link.run := some (runAfter s.link.txFrame)
    link.consecutiveFailures := 0
    link.slots := s.link.slots.filter fun y => y.handle ≠ x.handle }

/-- The outcome of a slot whose frame was completed (R95, R96). -/
def sentOutcome (x : Slot) : TxOutcome := if x.status = .cancelPending then .sentDespiteCancel else .sent

theorem reachedLine_sentOutcome (x : Slot) : reachedLine (sentOutcome x) = true := by
  unfold sentOutcome
  split <;> rfl

theorem exec_sendSuccess {s : State} {x : Slot} {latch : Count}
    (hframe : s.link.frame = .starting ∨ s.link.frame = .sending)
    (hx : s.link.slots.find? (fun y => y.status ≠ .pending) = some x) (hlatch : x.latch = some latch) :
    exec .sendSuccess s
      = .next (syncBar (queueNotice ⟨fillNotice (prof s).datum latch x.notice, (prof s).node, latch, true⟩
          (examineIf (endSlot x (sentOutcome x)
            (raiseCount (noticeClass x.notice)
              (frameOver (runAfter s.link.txFrame) { s with link.consecutiveFailures := 0 })))))) := by
  have hsend : sendingSlot s = some x := hx
  change execSendSuccess s = _
  rw [execSendSuccess, hsend]
  refine (if_pos ((driving_iff s).2 hframe)).trans ?_
  rw [hlatch]
  rfl

theorem removeSlot_raiseCount (cls : AccessClass) (x : Slot) (s : State) :
    removeSlot x.handle (raiseCount cls (frameOver (runAfter s.link.txFrame) { s with link.consecutiveFailures := 0 }))
      = raiseCount cls (frameSent x s) := by
  cases cls <;> rfl

/-- A completed frame that is no CLAIM: the outcome reaches its requester, and the own notice its queue (R89, R97). -/
theorem exec_sendSuccess_of_notice {s : State} {x : Slot} {latch : Count}
    (hframe : s.link.frame = .starting ∨ s.link.frame = .sending)
    (hx : s.link.slots.find? (fun y => y.status ≠ .pending) = some x) (hlatch : x.latch = some latch)
    (hclaim : ∀ id c, x.notice ≠ .claim id c) :
    exec .sendSuccess s
      = .next (syncBar (queueNotice ⟨fillNotice (prof s).datum latch x.notice, (prof s).node, latch, true⟩
          (noticeOutcome x.notice ⟨sentOutcome x, x.latch⟩ (raiseCount (noticeClass x.notice) (frameSent x s))))) := by
  rw [exec_sendSuccess hframe hx hlatch, endAndExamine_of_notice _ _ hclaim, removeSlot_raiseCount]

theorem linePositionAt_eq (datum : BitVec 24) (latch d : Count) :
    linePositionAt datum latch d = BitVec.ofInt 24 (max 0 (min 16777215 (datum.toNat + (latch - d).toInt))) := by
  unfold linePositionAt signedDiff
  dsimp only
  generalize hx : (datum.toNat : Int) + (latch - d).toInt = x
  simp only [Config.lastPosition]
  split
  · rw [max_eq_left (by omega)]; rfl
  · split
    · rw [min_eq_left (by omega)]; rfl
    · rw [min_eq_right (by omega), max_eq_right (by omega)]

theorem countsSinceClose_eq (latch close : Count) :
    countsSinceClose latch close = BitVec.ofInt 16 (max 0 (min 65535 ((latch - close).toInt))) := by
  unfold countsSinceClose signedDiff
  dsimp only
  generalize hx : (latch - close).toInt = x
  split
  · rw [max_eq_left (by omega)]; rfl
  · split
    · rw [min_eq_left (by omega)]; rfl
    · rw [min_eq_right (by omega), max_eq_right (by omega)]

/-- The tracks after the outcome of a PIECE that reached the line (R51). -/
def tracksAnnounced (id : PieceId) (s : State) : List Track :=
  match trackOf id s with
  | none => s.engine.tracks
  | some t => s.engine.tracks.map fun v => if v.key = t.key then { v with unannounced := false } else v

theorem pieceOutcome_reached {id : PieceId} {r : TxReport} (h : reachedLine r.outcome = true) (s : State) :
    pieceOutcome id r s = { s with engine.tracks := tracksAnnounced id s } := by
  unfold pieceOutcome tracksAnnounced
  split <;> rename_i ht <;> simp only [ht]
  rw [h]
  rfl

theorem claimOutcome_reached {h : Nat} {r : TxReport} {s : State} {y : OwnClaim} (hr : reachedLine r.outcome = true)
    (hy : s.claim.ownClaims.find? (·.handle = h) = some y) (hmet : y.met = false) :
    claimOutcome h r s = (modifyRecord h (fun x => { x with outcomeTaken := true }) s, none) := by
  simp [claimOutcome, hy, hr, hmet]

/-- The state in which an own URGENT frame has been dropped at a full queue, before the claim unit is told (R111, R112). -/
def ownDropped (s : State) : State :=
  { s with
    accept.urgentDrop := bump s.accept.urgentDrop
    accept.overrun := true
    accept.ownDrop := bump s.accept.ownDrop }

theorem joinUrgent_of_room {e : QueueEntry} {s : State} (h : s.accept.urgent.length < 8) :
    joinUrgent e s = { s with accept.urgent := s.accept.urgent ++ [e] } :=
  if_pos h

theorem joinUrgent_own_of_full {e : QueueEntry} {s : State} {kind : UrgentKind} {id : PieceId}
    (h : 8 ≤ s.accept.urgent.length) (hown : e.own = true) (hkind : urgentOf e.wire = some (kind, id)) :
    joinUrgent e s = reportOwnDrop kind id e.latch (ownDropped s) := by
  rw [joinUrgent, if_neg (Nat.not_lt.2 h), hown, hkind]
  rfl

theorem reportOwnDrop_of_room {kind : UrgentKind} {id : PieceId} {latch : Count} {s : State}
    (h : s.claim.dropNotices.length < 16) :
    reportOwnDrop kind id latch s
      = { s with claim.dropNotices := s.claim.dropNotices ++ [⟨kind, id, latch, s.accept.urgent.length⟩] } :=
  if_pos h

theorem reportOwnDrop_of_full {kind : UrgentKind} {id : PieceId} {latch : Count} {s : State}
    (h : 16 ≤ s.claim.dropNotices.length) (hkind : kind ≠ .claim) : reportOwnDrop kind id latch s = s := by
  unfold reportOwnDrop
  rw [if_neg (Nat.not_lt.2 h)]
  cases kind with
  | claim => exact absurd rfl hkind
  | release => rfl
  | fired => rfl

/-- A lone CLAIM of a piece without a track, its outcome taken, is settled as never first and its record removed (R135). -/
theorem claimNeverFirst_of_single {id : PieceId} {s : State} {r : OwnClaim} (hr : s.claim.ownClaims = [r]) (hid : r.id = id)
    (hmet : r.met = false) (htaken : r.outcomeTaken = true) (hgive : r.giveUp = none) (htrack : trackOf id s = none) :
    claimNeverFirst id s = { s with claim.ownClaims := [] } := by
  have hunmet : unmetRecord id s = some r := by simp [unmetRecord, hr, hid, hmet]
  have hnone (a : State) (ha : a.engine = s.engine) : trackOf id a = none := by
    simpa only [trackOf, ha] using htrack
  rw [claimNeverFirst, hunmet]
  simp only [hgive, hnone (modifyRecord r.handle _ s) rfl]
  rw [settleMet]
  simp [modifyRecord, hr, htaken, hgive, reexamineAfter, examineIf, removeRecord]

/-- Settles O22. -/
theorem successfulSendsAreHandedBack : Obligations.SuccessfulSendsAreHandedBack := by
  intro s u x latch hbar hframe hx hlatch hu
  have hu' : u = frameSent x s := hu
  subst hu'
  have hbase : SameBar (frameSent x s) s := {}
  have hsync {t : State} (ht : SameBar t s) : syncBar t = t := syncBar_of_inStep (ht.inStep hbar)
  refine ⟨fun h hbeat => ?_, fun w tracks hkinds => ?_, fun w kind id records hkinds => ?_⟩
  · rw [exec_sendSuccess_of_notice hframe hx hlatch (by simp [hbeat]), hbeat, noticeOutcome,
      if_pos (reachedLine_sentOutcome x)]
    exact congrArg _ (hsync {})
  · have hsent : exec .sendSuccess s
        = .next (syncBar (joinGeneral ⟨w, (prof s).node, latch, true⟩
            { frameSent x s with link.requiredNormal := 15, engine.tracks := tracks })) := by
      obtain ⟨id, ch, res, hn, hw, ht⟩ | ⟨d, i, hn, hw, ht⟩ := hkinds
      · rw [exec_sendSuccess_of_notice hframe hx hlatch (by simp [hn]), hn, noticeOutcome,
          if_pos (reachedLine_sentOutcome x), queueNotice_normal rfl, hw, ht]
        rfl
      · have ht' : tracks = tracksAnnounced i.id s := ht
        rw [exec_sendSuccess_of_notice hframe hx hlatch (by simp [hn]), hn, noticeOutcome,
          pieceOutcome_reached (reachedLine_sentOutcome x), queueNotice_normal rfl, hw, ht', fillNotice, linePositionAt_eq]
        rfl
    obtain ⟨v, hv⟩ : ∃ v, v = { frameSent x s with link.requiredNormal := 15, engine.tracks := tracks } := ⟨_, rfl⟩
    have hsame : v.accept = s.accept ∧ prof v = prof s := by rw [hv]; exact ⟨rfl, rfl⟩
    obtain ⟨haccept, hprof⟩ := hsame
    have hv' : SameBar v s := by rw [hv]; exact {}
    rw [← hv] at hsent
    refine ⟨fun hroom => ?_, fun hfull => ?_⟩
    · rw [hsent, joinGeneral_of_room (haccept ▸ hroom), hsync (SameBar.trans (b := v) {} hv'), haccept, hprof, if_pos rfl, hv]
      rfl
    · rw [hsent, joinGeneral_of_full (haccept ▸ hfull), hsync (SameBar.trans (b := v) {} hv'), haccept, hv]
      rfl
  · have hsent : exec .sendSuccess s
          = .next (syncBar (joinUrgent ⟨w, (prof s).node, latch, true⟩
              { frameSent x s with link.requiredUrgent := 13, claim.ownClaims := records }))
        ∧ urgentOf w = some (kind, id)
        ∧ (kind ≠ .claim → records = s.claim.ownClaims) := by
      obtain ⟨why, hn, hw, hk, hr⟩ | ⟨d, i, hn, hw, hid, hk, hr⟩ | ⟨c, r, hn, hw, hk, hfind, hmet, hr⟩ := hkinds
      · refine ⟨?_, by rw [hw, hk]; rfl, fun _ => hr⟩
        rw [exec_sendSuccess_of_notice hframe hx hlatch (by simp [hn]), hn, noticeOutcome,
          if_pos (reachedLine_sentOutcome x), queueNotice_urgent rfl, hw, hr]
        rfl
      · refine ⟨?_, by rw [hw, hk, ← hid]; rfl, fun _ => hr⟩
        rw [exec_sendSuccess_of_notice hframe hx hlatch (by simp [hn]), hn, noticeOutcome,
          if_pos (reachedLine_sentOutcome x), queueNotice_urgent rfl, hw, hr, fillNotice, countsSinceClose_eq]
        rfl
      · refine ⟨?_, by rw [hw, hk]; rfl, fun h => absurd hk h⟩
        have hend : endSlot x (sentOutcome x) (raiseCount (noticeClass x.notice)
              (frameOver (runAfter s.link.txFrame) { s with link.consecutiveFailures := 0 }))
            = (modifyRecord x.handle (fun y => { y with outcomeTaken := true })
                (raiseCount .urgent (frameSent x s)), none) := by
          unfold endSlot
          rw [hn]
          dsimp only
          rw [removeSlot_raiseCount]
          exact claimOutcome_reached (r := ⟨sentOutcome x, x.latch⟩) (s := raiseCount .urgent (frameSent x s))
            (reachedLine_sentOutcome x) hfind hmet
        rw [exec_sendSuccess hframe hx hlatch, hend, examineIf_none, hn, queueNotice_urgent rfl, hw, hr]
        rfl
    obtain ⟨v, hv⟩ : ∃ v, v = { frameSent x s with link.requiredUrgent := 13, claim.ownClaims := records } := ⟨_, rfl⟩
    have hsame : v.accept = s.accept ∧ v.claim.dropNotices = s.claim.dropNotices ∧ v.claim.ownClaims = records
        ∧ v.engine = s.engine := by
      rw [hv]; exact ⟨rfl, rfl, rfl, rfl⟩
    obtain ⟨haccept, hdropNotices, hown, hengine⟩ := hsame
    have hv' : SameBar v s := by rw [hv]; exact {}
    rw [← hv] at hsent
    obtain ⟨hexec, hwire, hrecords⟩ := hsent
    have hfullQueue (hfull : 8 ≤ s.accept.urgent.length) :
        exec .sendSuccess s = .next (syncBar (reportOwnDrop kind id latch (ownDropped v))) := by
      rw [hexec, joinUrgent_own_of_full (haccept ▸ hfull) rfl hwire]
    refine ⟨fun hroom => ?_, fun hfull hdrops => ?_, fun hfull hdrops hkind => ?_,
      fun r hfull hdrops hkind hr hid hgive htrack => ?_⟩
    · rw [hexec, joinUrgent_of_room (haccept ▸ hroom), hsync (SameBar.trans (b := v) {} hv'), haccept, hv]
      rfl
    · rw [hfullQueue hfull, reportOwnDrop_of_room (hdropNotices ▸ hdrops), hsync (SameBar.trans (b := v) {} hv'),
        ownDropped, haccept, hdropNotices, hv]
      rfl
    · rw [hfullQueue hfull, reportOwnDrop_of_full (hdropNotices ▸ hdrops) hkind, hsync (SameBar.trans (b := v) {} hv'),
        ownDropped, haccept, hv, hrecords hkind]
      rfl
    · obtain ⟨q, hq, hqid, hqmet, hqtaken, hqgive⟩ : ∃ q : OwnClaim, v.claim.ownClaims = [q] ∧ q.id = id ∧ q.met = false
          ∧ q.outcomeTaken = true ∧ q.giveUp = none := by
        obtain ⟨_, -, -, hk, -⟩ | ⟨_, _, -, -, -, hk, -⟩ | ⟨c, y, -, -, -, hfind, hmet, hrec⟩ := hkinds
        · rw [hkind] at hk; cases hk
        · rw [hkind] at hk; cases hk
        · rw [hr] at hfind hrec
          have hmem := List.mem_of_find?_eq_some hfind
          have hhandle := List.find?_some hfind
          obtain rfl := List.mem_singleton.1 hmem
          refine ⟨{ y with outcomeTaken := true }, ?_, hid, hmet, rfl, hgive⟩
          rw [hown, hrec, List.map_singleton, if_pos (by simpa using hhandle)]
      have htrack' : trackOf id (ownDropped v) = none := by
        rw [← htrack]
        exact congrArg (fun e : Engine => e.tracks.find? (hasId id)) hengine
      have hreport : reportOwnDrop kind id latch (ownDropped v) = claimNeverFirst id (ownDropped v) := by
        unfold reportOwnDrop
        rw [hkind]
        exact if_neg (Nat.not_lt.2 (hdropNotices ▸ hdrops))
      rw [hfullQueue hfull, hreport, claimNeverFirst_of_single (s := ownDropped v) hq hqid hqmet hqtaken hqgive htrack',
        hsync (SameBar.trans (b := v) {} hv'), ownDropped, haccept, hv]
      rfl

end Sys2Proof.Machine
end

/-! ### Own heartbeats and slot deadlines (R90, R94, R102, R115, R116) -/

section
namespace Sys2Proof.Machine

set_option Elab.async false

/-- The slot of a notice just added (R93). -/
def freshSlot (n : Notice) (d : Option Count) (handle : Nat) : Slot where
  handle := handle
  status := .pending
  notice := n
  deadline := d
  deadlineMet := false
  failedAttempts := 0
  latch := none

/-- An add with a FREE slot (R93). -/
theorem slotAdd_of_room {n : Notice} {d : Option Count} {s : State} (hlink : acceptsAdds s = true)
    (hroom : s.link.slots.length < 8) :
    slotAdd n d s
      = some ({ s with
          link.slots := s.link.slots ++ [freshSlot n d s.link.nextHandle]
          link.nextHandle := s.link.nextHandle + 1 }, s.link.nextHandle) := by
  have hadd : roomForAdd (noticeClass n) s = some s := by
    rw [roomForAdd, if_neg (by simp [hlink]), if_pos hroom]
  rw [slotAdd, hadd]
  rfl

theorem addHeartbeat_of_room {s : State} (hlink : acceptsAdds s = true) (hroom : s.link.slots.length < 8) :
    addHeartbeat s
      = { s with
          link.slots := s.link.slots ++ [freshSlot (.heartbeat (buildHeartbeat s)) none s.link.nextHandle]
          link.nextHandle := s.link.nextHandle + 1
          members.heartbeatHandle := some s.link.nextHandle } := by
  rw [addHeartbeat, slotAdd_of_room hlink hroom]

theorem addHeartbeat_of_full {s : State} (hfull : 8 ≤ s.link.slots.length) :
    addHeartbeat s = { s with members.skipped := bump s.members.skipped } := by
  have hnone : roomForAdd .routine s = none := by
    unfold roomForAdd
    rw [if_neg (show ¬ s.link.slots.length < Config.slotSize from Nat.not_lt.2 hfull),
      if_neg (show ¬ AccessClass.routine = .urgent by decide)]
    split <;> rfl
  have hadd : slotAdd (.heartbeat (buildHeartbeat s)) none s = none := by
    rw [slotAdd, noticeClass, hnone]
  rw [addHeartbeat, hadd]

theorem cancelHeartbeat_of_ended {s : State}
    (h : ∀ k, s.members.heartbeatHandle = some k → ∀ x ∈ s.link.slots, x.handle ≠ k) : cancelHeartbeat s = s := by
  unfold cancelHeartbeat
  split
  · rfl
  · rename_i k hk
    have hslot : slotAt k s = none := by
      rw [slotAt, List.find?_eq_none]
      exact fun x hx => by simpa using h k hk x hx
    rw [cancelSlot, hslot]

/-- A heartbeat still PENDING is cancelled and counted skipped (R115, R116). -/
theorem cancelHeartbeat_of_pending {s : State} {k : Nat} {x : Slot} {b : Heartbeat}
    (hk : s.members.heartbeatHandle = some k) (hx : s.link.slots.find? (fun y => y.handle = k) = some x)
    (hp : x.status = .pending) (hb : x.notice = .heartbeat b) :
    cancelHeartbeat s
      = { s with
          link.slots := s.link.slots.filter fun y => y.handle ≠ x.handle
          members.skipped := bump s.members.skipped } := by
  have hslot : slotAt k s = some x := hx
  rw [cancelHeartbeat, hk]
  dsimp only
  rw [cancelSlot, hslot]
  dsimp only
  rw [hp]
  dsimp only
  rw [endSlot_of_notice _ _ (by simp [hb]), hb]
  rfl

/-- The state in which a heartbeat period has just begun again (R115). -/
def beatDue (t0 : Nat) (s : State) : State :=
  { s with clock := max s.clock t0, members.heartbeatTimer := some (t0 + 10 * (prof s).heartbeatPeriod) }

theorem exec_heartbeatTimerExpiry {s : State} {t0 : Nat} (h : s.members.heartbeatTimer = some t0) :
    exec .heartbeatTimerExpiry s = .next (syncBar (addHeartbeat (cancelHeartbeat (beatDue t0 s)))) := by
  change execHeartbeatTimerExpiry s = _
  rw [execHeartbeatTimerExpiry, h]
  rfl

/-- Settles O26. -/
theorem heartbeatsFallDueAtTheirPeriod : Obligations.HeartbeatsFallDueAtTheirPeriod := by
  intro s t0 beat hbar hbeat
  have hbeat' : beat = freshSlot (.heartbeat (buildHeartbeat s)) none s.link.nextHandle := hbeat
  have hactive (h : s.link.state = .active) : acceptsAdds (beatDue t0 s) = true := by
    simp [acceptsAdds, beatDue, h]
  refine ⟨fun hlink htimer hroom => ?_, fun hlink htimer hroom hended => ?_,
    fun k x b hlink htimer hroom hk hx hp hb => ?_, fun hlink htimer hfull hended => ?_⟩
  · change execListeningTimerEnd s = _
    rw [execListeningTimerEnd, hlink, htimer, hbeat']
    exact congrArg _ (addHeartbeat_of_room
      (s := { beatDue t0 s with link.state := .active, link.listeningTimer := none }) rfl hroom)
  · rw [exec_heartbeatTimerExpiry htimer, cancelHeartbeat_of_ended (s := beatDue t0 s) hended,
      addHeartbeat_of_room (s := beatDue t0 s) (hactive hlink) hroom, hbeat']
    exact congrArg _ (syncBar_of_inStep hbar)
  · have hfewer : (s.link.slots.filter fun y => y.handle ≠ x.handle).length < 8 := by
      refine lt_of_lt_of_le ?_ hroom
      refine List.length_filter_lt_length_iff_exists.2 ⟨x, List.mem_of_find?_eq_some hx, by simp⟩
    rw [exec_heartbeatTimerExpiry htimer, cancelHeartbeat_of_pending (s := beatDue t0 s) hk hx hp hb, hbeat']
    refine congrArg _ ((congrArg syncBar (addHeartbeat_of_room ?_ hfewer)).trans (syncBar_of_inStep hbar))
    simp [acceptsAdds, beatDue, hlink]
  · rw [exec_heartbeatTimerExpiry htimer, cancelHeartbeat_of_ended (s := beatDue t0 s) hended,
      addHeartbeat_of_full (s := beatDue t0 s) hfull]
    exact congrArg _ (syncBar_of_inStep hbar)

theorem exec_slotDeadlineStale {s : State} {place : Fin 8} {x : Slot} (hx : s.link.slots[place.val]? = some x) :
    exec (.slotDeadlineStale place) s
      = if deadlineReached x.deadline s then
          if x.status = .pending then .next (syncBar (examineIf (endSlot x .stale s)))
          else .next (modifySlot x.handle (fun y => { y with deadlineMet := true }) s)
        else .next s := by
  change execSlotDeadlineStale place s = _
  rw [execSlotDeadlineStale, hx]

/-- The tracks after the outcome of a PIECE that never reached the line (R51). -/
def tracksUnannounced (id : PieceId) (s : State) : List Track :=
  match trackOf id s with
  | none => s.engine.tracks
  | some t => s.engine.tracks.map fun u => if u.key = t.key then { u with unannounced := true } else u

theorem pieceOutcome_unreached {id : PieceId} {r : TxReport} (h : reachedLine r.outcome = false) (s : State) :
    pieceOutcome id r s = { s with engine.tracks := tracksUnannounced id s } := by
  unfold pieceOutcome tracksUnannounced
  split <;> rename_i ht <;> simp only [ht]
  rw [h]
  rfl

/-- Settles O27. -/
theorem reachedDeadlinesMakePendingSlotsStale : Obligations.ReachedDeadlinesMakePendingSlotsStale := by
  intro s place x hbar hx
  have hdue {d : Count} (hd : x.deadline = some d) (hr : reached s d = true) : deadlineReached x.deadline s = true := by
    rw [hd]; exact hr
  refine ⟨fun d c i hd hr hp hn => ?_, fun d c i hd hr hp hn => ?_, fun d hd hr hp => ?_, fun hahead => ?_⟩ <;>
    rw [exec_slotDeadlineStale hx]
  · rw [if_pos (hdue hd hr), if_pos hp, endAndExamine_of_notice _ _ (by simp [hn]), hn]
    exact congrArg _ (syncBar_of_inStep hbar)
  · rw [if_pos (hdue hd hr), if_pos hp, endAndExamine_of_notice _ _ (by simp [hn]), hn, noticeOutcome,
      pieceOutcome_unreached rfl]
    exact congrArg _ (syncBar_of_inStep hbar)
  · rw [if_pos (hdue hd hr), if_neg hp]
    rfl
  · rw [if_neg]
    cases hd : x.deadline with
    | none => simp [deadlineReached]
    | some d => simp [deadlineReached, hahead d hd]

end Sys2Proof.Machine
end

/-! ### The peer table and the derived sets (R118 to R125) -/

section
namespace Sys2Proof.Machine

set_option Elab.async false

/-! #### The derived sets -/

theorem presentContent_eq_some {p : Peer} {h : Heartbeat} :
    presentContent p = some h
      ↔ (p.state = .present ∨ p.state = .doubtful1 ∨ p.state = .doubtful2) ∧ p.content = some h := by
  unfold presentContent
  cases p.state <;> simp [presentForDecisions]

theorem expectedMember_eq_some {peers : Vector Peer 16} {n : Fin 16} {x : Node × BitVec 24} :
    expectedMember peers n = some x
      ↔ x.1 = n ∧ ∃ h, presentContent peers[n] = some h ∧ h.sense = true ∧ h.datum = x.2 := by
  obtain ⟨m, d⟩ := x
  unfold expectedMember
  cases presentContent peers[n] with
  | none => simp
  | some h =>
    by_cases hs : h.sense = true
    · simp [hs, eq_comm (a := n)]
    · simp [hs]

theorem mem_expectedOf {peers : Vector Peer 16} {n : Fin 16} {d : BitVec 24} :
    (n, d) ∈ expectedOf peers ↔ ∃ h, presentContent peers[n] = some h ∧ h.sense = true ∧ h.datum = d := by
  simp only [expectedOf, List.mem_filterMap, expectedMember_eq_some]
  constructor
  · rintro ⟨m, -, rfl, h⟩; exact h
  · exact fun h => ⟨n, List.mem_finRange n, rfl, h⟩

theorem pairwise_expectedOf (peers : Vector Peer 16) : (expectedOf peers).Pairwise fun a b => a.1 < b.1 := by
  refine List.Pairwise.filterMap (R := (· < ·)) _ (fun a b hab x hx y hy => ?_) (List.pairwise_lt_finRange 16)
  rw [(expectedMember_eq_some.1 hx).1, (expectedMember_eq_some.1 hy).1]
  exact hab

theorem getLsbD_foldl_minus {α : Type} (f : α → ClassSet) (l : List α) (a : ClassSet) (c : Fin 16) :
    (l.foldl (fun a n => a &&& ~~~ (f n)) a).getLsbD c = true ↔ a.getLsbD c = true ∧ ∀ n ∈ l, (f n).getLsbD c = false := by
  induction l generalizing a with
  | nil => simp
  | cons x xs ih =>
    rw [List.foldl_cons, ih]
    simp [and_assoc]

theorem getLsbD_barClasses {peers : Vector Peer 16} {n c : Fin 16} :
    (barClasses peers n).getLsbD c = false
      ↔ ∀ h, presentContent peers[n] = some h → h.eject = true → h.primary.getLsbD c = false := by
  unfold barClasses
  cases presentContent peers[n] with
  | none => simp
  | some h => by_cases he : h.eject = true <;> simp [he]

/-- Settles O32. -/
theorem derivedSetsFollowThePeerTable : Obligations.DerivedSetsFollowThePeerTable := by
  intro peers fallback
  refine ⟨fun n d => ?_, pairwise_expectedOf peers, fun c => ?_⟩
  · simp only [mem_expectedOf, presentContent_eq_some, and_assoc]
  · rw [adoptedOf, getLsbD_foldl_minus (barClasses peers)]
    simp only [List.mem_finRange, forall_const, getLsbD_barClasses, presentContent_eq_some, and_imp]

theorem derivedSets_congr {p q : Vector Peer 16} (h : ∀ n : Fin 16, presentContent p[n] = presentContent q[n])
    (fallback : ClassSet) : expectedOf p = expectedOf q ∧ adoptedOf fallback p = adoptedOf fallback q := by
  have hmember : expectedMember p = expectedMember q := funext fun n => by simp only [expectedMember, h]
  have hbar : barClasses p = barClasses q := funext fun n => by simp only [barClasses, h]
  exact ⟨by simp only [expectedOf, hmember], by simp only [adoptedOf, hbar]⟩

/-! #### Heartbeats -/

/-- What the membership unit may change at a heartbeat or a missed one: the table, the sets, a count and a flag. -/
def PeersOnly (s t : State) : Prop := ∃ m f, t = { s with members := m, port.flags := f }

theorem PeersOnly.refl (s : State) : PeersOnly s s := ⟨_, _, rfl⟩

theorem PeersOnly.trans {a b c : State} (h : PeersOnly a b) (k : PeersOnly b c) : PeersOnly a c := by
  obtain ⟨m, f, rfl⟩ := h
  obtain ⟨m', f', rfl⟩ := k
  exact ⟨_, _, rfl⟩

theorem superviseSlot_peersOnly (n : Node) (d : Nat) (s : State) : PeersOnly s (superviseSlot n d s) := by
  unfold superviseSlot flagPeerChange
  dsimp only
  repeat' split
  all_goals exact ⟨_, _, rfl⟩

theorem recordHeartbeat_peersOnly (n : Node) (h : Heartbeat) (s : State) : PeersOnly s (recordHeartbeat n h s) := by
  unfold recordHeartbeat flagPeerChange
  dsimp only
  repeat' split
  all_goals exact ⟨_, _, rfl⟩

theorem superviseOverdue_peersOnly (n : Node) (fuel : Nat) (s : State) : PeersOnly s (superviseOverdue n fuel s) := by
  induction fuel generalizing s with
  | zero => exact .refl s
  | succ fuel ih =>
    unfold superviseOverdue
    split
    · exact .refl s
    · split
      · exact (superviseSlot_peersOnly _ _ _).trans (ih _)
      · exact .refl s

/-- The slot a recorded heartbeat leaves (R118, R119). -/
def heardSlot (h : Heartbeat) (clock : Nat) (state : PeerState) : Peer where
  state := state
  content := some h
  arrival := some clock
  deadline := some (clock + 15 * h.period.toNat)
  missed := 0

theorem recordHeartbeat_peers (n : Node) (h : Heartbeat) (s : State) :
    (recordHeartbeat n h s).members.peers
      = s.members.peers.set n (heardSlot h s.clock (heardState s.members.peers[n].state)) := by
  unfold recordHeartbeat flagPeerChange
  dsimp only
  repeat' split
  all_goals rfl

theorem recordHeartbeat_port_of_quiet {n : Node} {s : State} (h : Heartbeat)
    (hq : isPeerChange s.members.peers[n].state (heardState s.members.peers[n].state) = false) :
    (recordHeartbeat n h s).port = s.port := by
  unfold recordHeartbeat
  simp only [flagPeerChange_of_quiet hq]
  repeat' split
  all_goals rfl

theorem recordHeartbeat_flag (n : Node) (h : Heartbeat) (s : State)
    (hf : isPeerChange s.members.peers[n].state (heardState s.members.peers[n].state) = true
      ∨ s.port.flags.getLsbD 2 = true) : (recordHeartbeat n h s).port.flags.getLsbD 2 = true := by
  have hflag (a : State) (ha : a.port = s.port) :
      (flagPeerChange s.members.peers[n].state (heardState s.members.peers[n].state) a).port.flags.getLsbD 2 = true := by
    unfold flagPeerChange
    split
    · exact raiseFlag_getLsbD_flagBit .peerChange a
    · rename_i hq
      rw [ha]
      exact hf.resolve_left hq
  have hset := hflag (setPeer n (heardSlot h s.clock (heardState s.members.peers[n].state)) s) rfl
  unfold recordHeartbeat
  dsimp only
  repeat' split
  all_goals exact hset

/-- The sets are recomputed when the slot comes to be present for decisions (R123). -/
theorem recordHeartbeat_sets_of_change {n : Node} {s : State} (h : Heartbeat)
    (hc : presentForDecisions s.members.peers[n].state ≠ presentForDecisions (heardState s.members.peers[n].state)) :
    (recordHeartbeat n h s).members.expected = expectedOf (recordHeartbeat n h s).members.peers
      ∧ (recordHeartbeat n h s).members.adopted = adoptedOf (prof s).fallback (recordHeartbeat n h s).members.peers := by
  obtain ⟨a, ha⟩ : ∃ a, recordHeartbeat n h s = recomputeSets a :=
    ⟨_, if_pos (Bool.or_eq_true_iff.2 (.inl (decide_eq_true hc)))⟩
  have hprof : prof a = prof s := by
    obtain ⟨m, f, hm⟩ := recordHeartbeat_peersOnly n h s
    have hsame := congrArg prof (ha.symm.trans hm)
    exact hsame
  rw [ha, ← hprof]
  exact ⟨rfl, rfl⟩

/-- A LOST peer that begins again is not present for decisions, before or after: the sets stay (R123). -/
theorem recordHeartbeat_sets_of_lost {n : Node} {s : State} (h : Heartbeat) (hl : s.members.peers[n].state = .lost) :
    (recordHeartbeat n h s).members.expected = s.members.expected
      ∧ (recordHeartbeat n h s).members.adopted = s.members.adopted := by
  have hcause : contentCause s.members.peers[n] h = false := by
    unfold contentCause
    rw [hl]
    split <;> rfl
  have hcond : ¬ (presentForDecisions s.members.peers[n].state ≠ presentForDecisions (heardState s.members.peers[n].state)
      || contentCause s.members.peers[n] h) = true := by
    rw [hcause, hl]
    decide
  unfold recordHeartbeat flagPeerChange
  dsimp only
  rw [if_neg hcond]
  repeat' split
  all_goals exact ⟨rfl, rfl⟩

theorem superviseOverdue_of_none {n : Node} {s : State} (fuel : Nat) (h : s.members.peers[n].deadline = none) :
    superviseOverdue n fuel s = s := by
  cases fuel with
  | zero => rfl
  | succ fuel => rw [superviseOverdue, h]

theorem superviseOverdue_of_ahead {n : Node} {s : State} {d : Nat} (fuel : Nat)
    (h : s.members.peers[n].deadline = some d) (hd : s.clock ≤ d) : superviseOverdue n fuel s = s := by
  cases fuel with
  | zero => rfl
  | succ fuel =>
    rw [superviseOverdue, h]
    exact if_neg (by omega)

theorem superviseOverdue_of_passed {n : Node} {s : State} {d : Nat} (fuel : Nat)
    (h : s.members.peers[n].deadline = some d) (hd : d < s.clock) :
    superviseOverdue n (fuel + 1) s = superviseOverdue n fuel (superviseSlot n d s) := by
  rw [superviseOverdue, h]
  exact if_pos hd

/-- A JOINING peer is ABSENT after its deadline, with none further (R120). -/
theorem superviseOverdue_of_joining {n : Node} {s : State} {d : Nat} (h : s.members.peers[n].deadline = some d)
    (hd : d < s.clock) (hst : s.members.peers[n].state = .joining1 ∨ s.members.peers[n].state = .joining2) :
    superviseOverdue n 3 s
      = setPeer n { s.members.peers[n] with state := .absent, missed := 1, deadline := none } s := by
  rw [superviseOverdue_of_passed 2 h hd, superviseSlot_quiet d (hst.imp_right .inl), missedSlot_of_joining hst,
    superviseOverdue_of_none]
  simp [setPeer]

theorem peers_setPeer_self (n : Node) (p : Peer) (s : State) : (setPeer n p s).members.peers[n] = p := by
  simp [setPeer]

theorem set_set_peer (v : Vector Peer 16) (n : Node) (p q : Peer) : (v.set n p).set n q = v.set n q := by
  simp

/-- How a PRESENT peer's slot stands when its deadline has been missed, before a heartbeat that comes late: in doubt with
the flag set, or LOST with the sets recomputed (R120, R122, R123). -/
structure Missed (n : Node) (lost : Bool) (s u : State) : Prop where
  clock : u.clock = s.clock
  prof : prof u = prof s
  peers : ∃ q, u.members.peers = s.members.peers.set n q
  state : if lost then u.members.peers[n].state = .lost
    else u.members.peers[n].state = .doubtful1 ∨ u.members.peers[n].state = .doubtful2
  flag : u.port.flags.getLsbD 2 = true
  sets : lost = true → u.members.expected = expectedOf u.members.peers
    ∧ u.members.adopted = adoptedOf (Machine.prof s).fallback u.members.peers

theorem superviseOverdue_of_present {n : Node} {s : State} {d : Nat} {old : Heartbeat}
    (hd : s.members.peers[n].deadline = some d) (hst : s.members.peers[n].state = .present)
    (hc : s.members.peers[n].content = some old) (hpast : d < s.clock) :
    Missed n (decide (d + 20 * old.period.toNat < s.clock)) s (superviseOverdue n 3 s) := by
  obtain ⟨a, ha⟩ : ∃ a, superviseSlot n d s = a := ⟨_, rfl⟩
  have ha' := ha
  rw [superviseSlot_of_present d hst, missedSlot_of_present hst hc] at ha'
  obtain ⟨p, hp⟩ : ∃ p, { s.members.peers[n] with
      state := PeerState.doubtful1, missed := 1, deadline := some (d + 10 * old.period.toNat) } = p := ⟨_, rfl⟩
  rw [hp] at ha'
  have hpa : a.members.peers[n] = p := by rw [← ha']; exact peers_setPeer_self n p s
  have hflag : a.port.flags.getLsbD 2 = true := by rw [← ha']; exact raiseFlag_getLsbD_flagBit .peerChange _
  have hclock : a.clock = s.clock := by rw [← ha']; rfl
  have hpeers : a.members.peers = s.members.peers.set n p := by rw [← ha']; rfl
  have hprof : prof a = prof s := by rw [← ha']; rfl
  have hpst : p.state = .doubtful1 := by rw [← hp]
  have hpd : p.deadline = some (d + 10 * old.period.toNat) := by rw [← hp]
  have hpc : p.content = some old := by rw [← hp]; exact hc
  rw [superviseOverdue_of_passed 2 hd hpast, ha]
  by_cases h1 : s.clock ≤ d + 10 * old.period.toNat
  · rw [superviseOverdue_of_ahead 2 (hpa ▸ hpd) (hclock ▸ h1), decide_eq_false (by omega)]
    exact ⟨hclock, hprof, ⟨p, hpeers⟩, .inl (hpa ▸ hpst), hflag, nofun⟩
  · obtain ⟨q, hq⟩ : ∃ q, { p with
        state := PeerState.doubtful2, missed := 2, deadline := some (d + 10 * old.period.toNat + 10 * old.period.toNat) } = q :=
      ⟨_, rfl⟩
    obtain ⟨b, hb⟩ : ∃ b, setPeer n q a = b := ⟨_, rfl⟩
    have hslot : superviseSlot n (d + 10 * old.period.toNat) a = b := by
      rw [superviseSlot_quiet _ (.inr (.inr (hpa ▸ hpst))), hpa, missedSlot_of_doubtful1 hpst hpc, hq, hb]
    have hqb : b.members.peers[n] = q := by rw [← hb]; exact peers_setPeer_self n q a
    have hpeers' : b.members.peers = s.members.peers.set n q := by
      rw [← hb]
      change a.members.peers.set n q = _
      rw [hpeers, set_set_peer]
    have hclock' : b.clock = s.clock := by rw [← hb]; exact hclock
    have hflag' : b.port.flags.getLsbD 2 = true := by rw [← hb]; exact hflag
    have hprof' : prof b = prof s := by rw [← hb]; exact hprof
    have hqst : q.state = .doubtful2 := by rw [← hq]
    have hqd : q.deadline = some (d + 10 * old.period.toNat + 10 * old.period.toNat) := by rw [← hq]
    rw [superviseOverdue_of_passed 1 (hpa ▸ hpd) (by rw [hclock]; omega), hslot]
    by_cases h2 : s.clock ≤ d + 20 * old.period.toNat
    · rw [superviseOverdue_of_ahead 1 (hqb ▸ hqd) (by rw [hclock']; omega), decide_eq_false (by omega)]
      exact ⟨hclock', hprof', ⟨q, hpeers'⟩, .inr (hqb ▸ hqst), hflag', nofun⟩
    · rw [superviseOverdue_of_passed 0 (hqb ▸ hqd) (by rw [hclock']; omega), decide_eq_true (by omega)]
      change Missed n true s (superviseSlot n _ b)
      rw [superviseSlot_of_doubtful2 _ (hqb ▸ hqst), hqb, missedSlot_of_doubtful2 hqst]
      obtain ⟨r, hr⟩ : ∃ r, { q with state := PeerState.lost, missed := 3, deadline := none } = r := ⟨_, rfl⟩
      rw [hr]
      refine ⟨hclock', hprof', ⟨r, ?_⟩, ?_, raiseFlag_getLsbD_flagBit .peerChange _, fun _ => ⟨rfl, ?_⟩⟩
      · change b.members.peers.set n r = _
        rw [hpeers', set_set_peer]
      · change (setPeer n r b).members.peers[n].state = .lost
        rw [peers_setPeer_self, ← hr]
      · rw [← hprof']; rfl

/-- A frame with another node's heartbeat reaches the membership unit (R103, R118). -/
theorem exec_frameReceived_heartbeat {s : State} {bytes : List Byte} {n : Node} {h : Heartbeat}
    (hlink : s.link.state ≠ .offline) (hframe : s.link.frame = .receiving) (hgood : frameGood bytes = true)
    (horigin : (headerOf bytes).origin = n) (hn : n ≠ (prof s).node) (hkind : (headerOf bytes).kind = 1)
    (hwire : wireOf (headerOf bytes).cls 1 ((bytes.drop 2).take (headerOf bytes).length) = some (.heartbeat h)) :
    exec (.frameReceived bytes) s
      = .next (syncBar (frameOver (runAfter bytes) (recordHeartbeat n h (superviseOverdue n 3 s)))) := by
  rw [exec_frameReceived bytes hlink (.inl hframe), takeFrame_known hgood (by omega), horigin, if_neg hn, takeNotice, hkind,
    hwire]
  simp only [takeHeartbeat, horigin, if_neg hn]

/-- Settles O30. -/
theorem heartbeatsMoveThePeerSlot : Obligations.HeartbeatsMoveThePeerSlot := by
  intro s bytes n h p heard hlink hframe hgood horigin hn hkind hwire hp hheard
  refine ⟨_, exec_frameReceived_heartbeat hlink hframe hgood horigin hn hkind hwire, ?_⟩
  have hheard' (state : PeerState) : heard state = s.members.peers.set n (heardSlot h s.clock state) := by rw [hheard]; rfl
  simp only [syncBar_frame, frameOver]
  refine ⟨fun hintime => ?_, fun d hd hpast hjoining => ?_, fun d old hd hst hc hpast => ?_, ?_⟩
  · have hover : superviseOverdue n 3 s = s := by
      cases hd : p.deadline with
      | none => exact superviseOverdue_of_none 3 (hp ▸ hd)
      | some d => exact superviseOverdue_of_ahead 3 (hp ▸ hd) (hintime d hd)
    rw [hover]
    refine ⟨?_, fun hst => ?_, fun hst => ?_, fun hst => ?_⟩
    · rw [recordHeartbeat_peers, hheard', hp]
      rfl
    · refine recordHeartbeat_flag n h s (.inl ?_)
      rw [hp]
      obtain hst | hst | hst | hst := hst <;> rw [hst] <;> rfl
    · refine recordHeartbeat_port_of_quiet h ?_
      rw [hp]
      obtain hst | hst | hst := hst <;> rw [hst] <;> rfl
    · refine recordHeartbeat_sets_of_change h ?_
      rw [hp, hst]
      decide
  · have hover := superviseOverdue_of_joining (n := n) (s := s) (hp ▸ hd) hpast (hp ▸ hjoining)
    rw [hover]
    refine ⟨?_, ?_⟩
    · rw [recordHeartbeat_peers, peers_setPeer_self, hheard']
      exact set_set_peer _ _ _ _
    · refine (recordHeartbeat_port_of_quiet h ?_).trans rfl
      rw [peers_setPeer_self]
      rfl
  · have hmissed := superviseOverdue_of_present (n := n) (s := s) (hp ▸ hd) (hp ▸ hst) (hp ▸ hc) hpast
    set u := superviseOverdue n 3 s with hu
    obtain ⟨q, hq⟩ := hmissed.peers
    have hpeers : (recordHeartbeat n h u).members.peers = heard (heardState u.members.peers[n].state) := by
      rw [recordHeartbeat_peers, hheard', hmissed.clock]
      rw [hq, set_set_peer, ← hq]
    have hstate := hmissed.state
    refine ⟨fun hsoon => ?_, fun hlate => ?_⟩
    · rw [decide_eq_false (by omega), if_neg Bool.false_ne_true] at hstate
      refine ⟨?_, recordHeartbeat_flag n h u (.inr hmissed.flag)⟩
      rw [hpeers]
      obtain hs | hs := hstate <;> rw [hs] <;> rfl
    · rw [decide_eq_true hlate, if_pos rfl] at hstate
      have hsets := hmissed.sets (decide_eq_true hlate)
      have hkept := recordHeartbeat_sets_of_lost h hstate
      have hsame := derivedSets_congr (p := u.members.peers) (q := (recordHeartbeat n h u).members.peers) (fun m => ?_)
        (prof s).fallback
      · refine ⟨by rw [hpeers, hstate]; rfl, recordHeartbeat_flag n h u (.inr hmissed.flag), ?_, ?_⟩
        · rw [hkept.1, hsets.1, hsame.1]
        · rw [hkept.2, hsets.2, hsame.2]
      · rw [recordHeartbeat_peers, hstate]
        by_cases hm : m = n
        · subst hm
          have hnone : presentContent u.members.peers[m] = none := by
            unfold presentContent
            rw [hstate]
            rfl
          rw [hnone]
          simp [presentContent, presentForDecisions, heardState, heardSlot]
        · have hne : n.val ≠ m.val := fun he => hm (Fin.ext he.symm)
          simp [hne]
  · obtain ⟨m, f, heq⟩ := (superviseOverdue_peersOnly n 3 s).trans (recordHeartbeat_peersOnly n h _)
    rw [heq]
    exact ⟨rfl, rfl, rfl, rfl⟩

end Sys2Proof.Machine
end

/-! ### The urgent queue taken in bus order (R132 to R135, R138) -/

section
namespace Sys2Proof.Machine

set_option Elab.async false

/-! #### Drop notices (R135) -/

/-- One entry fewer stands before each dropped frame (R135). -/
def nearer (l : List DropNotice) : List DropNotice := l.map fun n => { n with remaining := n.remaining - 1 }

theorem nearer_remaining {l : List DropNotice} (h : ∀ n ∈ l, 2 ≤ n.remaining) : ∀ n ∈ nearer l, n.remaining ≠ 0 := by
  intro n hn
  obtain ⟨m, hm, rfl⟩ := List.mem_map.1 hn
  have := h m hm
  simp only
  omega

theorem filter_due_nearer {l : List DropNotice} (h : ∀ n ∈ l, 2 ≤ n.remaining) :
    (nearer l).filter (fun n => n.remaining = 0) = [] ∧ (nearer l).filter (fun n => n.remaining ≠ 0) = nearer l := by
  have hn := nearer_remaining h
  exact ⟨List.filter_eq_nil_iff.2 fun n hm => by simpa using hn n hm, List.filter_eq_self.2 fun n hm => by simpa using hn n hm⟩

theorem advanceDropNotices_of_none_due {s : State} (h : ∀ n ∈ s.claim.dropNotices, 2 ≤ n.remaining) :
    advanceDropNotices s = { s with claim.dropNotices := nearer s.claim.dropNotices } := by
  obtain ⟨hdue, hrest⟩ := filter_due_nearer h
  change ((nearer s.claim.dropNotices).filter (fun n => n.remaining = 0)).foldl applyDropNotice
    { s with claim.dropNotices := (nearer s.claim.dropNotices).filter fun n => n.remaining ≠ 0 } = _
  rw [hdue, hrest]
  rfl

theorem advanceDropNotices_of_nil {s : State} (h : s.claim.dropNotices = []) : advanceDropNotices s = s := by
  rw [advanceDropNotices_of_none_due (by simp [h]), h]
  change { s with claim.dropNotices := [] } = s
  rw [← h]

theorem advanceDropNotices_of_first_due {s : State} {n : DropNotice} {later : List DropNotice}
    (h : s.claim.dropNotices = n :: later) (hn : n.remaining = 1) (hl : ∀ k ∈ later, 2 ≤ k.remaining) :
    advanceDropNotices s
      = applyDropNotice { s with claim.dropNotices := nearer later } { n with remaining := 0 } := by
  obtain ⟨hdue, hrest⟩ := filter_due_nearer hl
  have hcons : nearer s.claim.dropNotices = { n with remaining := 0 } :: nearer later := by simp [nearer, h, hn]
  have hfirst : (nearer s.claim.dropNotices).filter (fun n => n.remaining = 0) = [{ n with remaining := 0 }] := by
    rw [hcons, List.filter_cons, if_pos (by simp), hdue]
  have hothers : (nearer s.claim.dropNotices).filter (fun n => n.remaining ≠ 0) = nearer later := by
    rw [hcons, List.filter_cons, if_neg (by simp), hrest]
  change ((nearer s.claim.dropNotices).filter (fun n => n.remaining = 0)).foldl applyDropNotice
    { s with claim.dropNotices := (nearer s.claim.dropNotices).filter fun n => n.remaining ≠ 0 } = _
  rw [hfirst, hothers]
  rfl

/-! #### The commands that take the oldest urgent entry -/

theorem exec_claimEntryTaken {s : State} {e : QueueEntry} {rest : List QueueEntry} {id : PieceId} {c : ClassCode}
    (h : s.accept.urgent = e :: rest) (hw : e.wire = .claim id c) :
    exec .claimEntryTaken s
      = .next (syncBar (advanceDropNotices (applyClaim id e.origin e.own (urgentRest rest s)))) := by
  change execClaimEntryTaken s = _
  rw [execClaimEntryTaken, h]
  dsimp only
  rw [hw]

theorem exec_releaseEntryTaken {s : State} {e : QueueEntry} {rest : List QueueEntry} {id : PieceId} {why : ReleaseReason}
    (h : s.accept.urgent = e :: rest) (hw : e.wire = .release id why) :
    exec .releaseEntryTaken s
      = .next (syncBar (advanceDropNotices (applyRelease id e.origin e.own (urgentRest rest s)))) := by
  change execReleaseEntryTaken s = _
  rw [execReleaseEntryTaken, h]
  dsimp only
  rw [hw]

theorem exec_firedEntryTaken {s : State} {e : QueueEntry} {rest : List QueueEntry} {since : BitVec 16} {info : FiredInfo}
    (h : s.accept.urgent = e :: rest) (hw : e.wire = .fired since info) :
    exec .firedEntryTaken s
      = .next (syncBar (advanceDropNotices (handFired info.id e.origin e.latch since
          (applyFired info.id e.origin (urgentRest rest s))))) := by
  change execFiredEntryTaken s = _
  rw [execFiredEntryTaken, h]
  dsimp only
  rw [hw]

theorem keepsTracks_iff (s : State) : keepsTracks s = true ↔ (prof s).sense = true ∨ (prof s).eject = true := by
  simp [keepsTracks]

theorem keepsTracks_eq_false {s : State} (h1 : (prof s).sense = false) (h2 : (prof s).eject = false) :
    keepsTracks s = false := by
  simp [keepsTracks, h1, h2]

/-! #### CLAIM, RELEASE and FIRED at their places -/

theorem applyClaim_of_unknown {s : State} {id : PieceId} (n : Node) (hk : keepsTracks s = true) (ht : trackOf id s = none) :
    applyClaim id n false s = countUnknownId s := by
  simp [applyClaim, hk, ht]

theorem applyClaim_of_owned {s : State} {id : PieceId} {t : Track} {m : Node} (n : Node) (own : Bool)
    (hk : keepsTracks s = true) (ht : trackOf id s = some t) (ho : t.owner = some m) :
    applyClaim id n own s = if own then ownClaimNotFirst id (countIgnored s) else countIgnored s := by
  simp [applyClaim, hk, ht, ho]

theorem applyClaim_of_free {s : State} {id : PieceId} {t : Track} (n : Node) (own : Bool)
    (hk : keepsTracks s = true) (ht : trackOf id s = some t) (ho : t.owner = none) :
    applyClaim id n own s
      = if own then ownClaimFirst t.key id (modifyTrack t.key (fun u => { u with owner := some n }) s)
        else foreignClaimFirst t n (modifyTrack t.key (fun u => { u with owner := some n }) s) := by
  simp [applyClaim, hk, ht, ho]

theorem applyRelease_of_unknown {s : State} {id : PieceId} (n : Node) (own : Bool) (hk : keepsTracks s = true)
    (ht : trackOf id s = none) : applyRelease id n own s = countUnknownId s := by
  simp [applyRelease, hk, ht]

theorem applyRelease_of_other {s : State} {id : PieceId} {t : Track} {n : Node} (own : Bool) (hk : keepsTracks s = true)
    (ht : trackOf id s = some t) (ho : t.owner ≠ some n) : applyRelease id n own s = countIgnored s := by
  simp [applyRelease, hk, ht, ho]

theorem applyRelease_quiet {s : State} {id : PieceId} {t : Track} {n : Node} {own : Bool} (hk : keepsTracks s = true)
    (ht : trackOf id s = some t) (ho : t.owner = some n) (hq : own = true ∨ (prof s).eject = false) :
    applyRelease id n own s = modifyTrack t.key (releaseTrack n) s := by
  have hcond : (own || !(prof s).eject) = true := by obtain h | h := hq <;> simp [h]
  simp [applyRelease, hk, ht, ho, hcond]

theorem applyFired_of_known {s : State} {id : PieceId} {t : Track} (n : Node) (hk : keepsTracks s = true)
    (ht : trackOf id s = some t) :
    applyFired id n s = modifyTrack t.key (fun u => { u with firedBy := some n }) s := by
  simp [applyFired, hk, ht]

theorem applyFired_of_unknown {s : State} {id : PieceId} (n : Node) (hk : keepsTracks s = true)
    (ht : trackOf id s = none) : applyFired id n s = countUnknownId s := by
  simp [applyFired, hk, ht]

theorem releaseTrack_eq (n : Node) (u : Track) :
    releaseTrack n u
      = { u with owner := none, releasedBy := if n ∈ u.releasedBy then u.releasedBy else u.releasedBy ++ [n] } := by
  simp [releaseTrack]

/-- Two changes of one track in turn. -/
theorem modifyTrack_modifyTrack {k : Nat} {f g : Track → Track} (hf : ∀ u, (f u).key = u.key) (s : State) :
    modifyTrack k g (modifyTrack k f s) = modifyTrack k (fun u => g (f u)) s := by
  have hmap : (s.engine.tracks.map fun t => if t.key = k then f t else t).map (fun t => if t.key = k then g t else t)
      = s.engine.tracks.map fun t => if t.key = k then g (f t) else t := by
    rw [List.map_map]
    refine List.map_congr_left fun t _ => ?_
    by_cases h : t.key = k <;> simp [h, hf]
  unfold modifyTrack
  rw [← hmap]

/-! #### An own CLAIM met with a single record -/

theorem unmetRecord_of_single {s : State} {id : PieceId} {r : OwnClaim} (hr : s.claim.ownClaims = [r]) (hid : r.id = id)
    (hmet : r.met = false) : unmetRecord id s = some r := by
  simp [unmetRecord, hr, hid, hmet]

/-- A CLAIM met first whose record stands alone: won, the record gone where its outcome has been taken (R138). -/
theorem ownClaimFirst_of_single {s : State} {k : Nat} {id : PieceId} {r : OwnClaim} (hr : s.claim.ownClaims = [r])
    (hid : r.id = id) (hmet : r.met = false) (hgive : r.giveUp = none) (horphan : r.orphan = false) :
    ownClaimFirst k id s
      = { armEntry k (setOwn k .owned s) with
          claim :=
            { s.claim with
              won := bump s.claim.won
              ownClaims := if r.outcomeTaken then [] else [{ r with met := true, metFirst := true }] } } := by
  rw [ownClaimFirst, unmetRecord_of_single hr hid hmet]
  simp only [horphan, hgive]
  cases ht : r.outcomeTaken <;>
    simp [settleMet, modifyRecord, armEntry, setOwn, modifyTrack, removeRecord, hr, examineIf, reexamineAfter, ht, hgive, horphan]

/-- A CLAIM met second whose record stands alone and waits for its outcome (R138). -/
theorem ownClaimNotFirst_of_single {s : State} {id : PieceId} {r : OwnClaim} (hr : s.claim.ownClaims = [r])
    (hid : r.id = id) (hmet : r.met = false) (htaken : r.outcomeTaken = false) (horphan : r.orphan = false) :
    ownClaimNotFirst id s = { s with claim.ownClaims := [{ r with met := true }] } := by
  rw [ownClaimNotFirst, unmetRecord_of_single hr hid hmet]
  simp only [horphan]
  simp [settleMet, modifyRecord, hr, examineIf, htaken, horphan]

/-! #### The obligations -/

theorem armEntry_setOwn_eq (k : Nat) (n : Node) (s : State) :
    armEntry k (setOwn k .owned (modifyTrack k (fun u => { u with owner := some n }) s))
      = { s with
          engine.tracks :=
            s.engine.tracks.map fun u => if u.key = k then { u with owner := some n, own := .owned } else u
          sched.entries :=
            s.sched.entries.map fun x => if x.track = k ∧ x.state = .reserved then { x with state := .armed } else x } := by
  have htwo : setOwn k .owned (modifyTrack k (fun u => { u with owner := some n }) s)
      = modifyTrack k (fun u => { u with owner := some n, own := .owned }) s :=
    modifyTrack_modifyTrack (f := fun u => { u with owner := some n }) (fun _ => rfl) s
  rw [htwo, armEntry]
  simp only [Bool.and_eq_true, decide_eq_true_eq]
  rfl

theorem armEntry_driveOf (k : Nat) (s : State) : driveOf (armEntry k s) = driveOf s := by
  unfold driveOf armEntry
  rw [List.foldl_map]
  congr 1
  funext vs e
  by_cases h : e.track = k ∧ e.state = .reserved
  · simp [h.1, h.2]
  · have hkept : ¬ (decide (e.track = k) && decide (e.state = .reserved)) = true := by simpa using h
    rw [if_neg hkept]

theorem armEntry_inStep {k : Nat} {s : State} (h : BarInStep s) : BarInStep (armEntry k s) :=
  ⟨h.1.trans (armEntry_driveOf k s).symm, h.2⟩

theorem syncBar_of_sameBar {s t : State} (h : BarInStep s) (ht : SameBar t s) : syncBar t = t :=
  syncBar_of_inStep (ht.inStep h)

/-- Settles O33. -/
theorem firstClaimSetsTheOwner : Obligations.FirstClaimSetsTheOwner := by
  intro s v e rest id c hbar hurgent hwire hown hv
  have hexec : exec .claimEntryTaken s
      = .next (syncBar (advanceDropNotices (applyClaim id e.origin false (urgentRest rest s)))) := by
    rw [exec_claimEntryTaken hurgent hwire, hown]
  refine ⟨fun hfar => ⟨fun hs he => ?_, fun hkeeps => ⟨fun ht => ?_, fun t n ht ho => ?_, fun t ht ho hpend => ?_⟩⟩,
    fun n later later' t hdrops hn hl hlater hkeeps hunknown ht => ?_⟩
  · have happly : applyClaim id e.origin false (urgentRest rest s) = urgentRest rest s := by
      simp [applyClaim, show keepsTracks (urgentRest rest s) = false from keepsTracks_eq_false hs he]
    rw [hexec, happly, advanceDropNotices_of_none_due (s := urgentRest rest s) hfar, hv]
    exact congrArg _ (syncBar_of_inStep hbar)
  · rw [hexec, applyClaim_of_unknown (s := urgentRest rest s) _ ((keepsTracks_iff s).2 hkeeps) ht,
      advanceDropNotices_of_none_due (s := countUnknownId (urgentRest rest s)) hfar, hv]
    exact congrArg _ (syncBar_of_inStep hbar)
  · rw [hexec, applyClaim_of_owned (s := urgentRest rest s) _ _ ((keepsTracks_iff s).2 hkeeps) ht ho,
      if_neg Bool.false_ne_true, advanceDropNotices_of_none_due (s := countIgnored (urgentRest rest s)) hfar, hv]
    exact congrArg _ (syncBar_of_inStep hbar)
  · rw [hexec, applyClaim_of_free (s := urgentRest rest s) _ _ ((keepsTracks_iff s).2 hkeeps) ht ho,
      if_neg Bool.false_ne_true, foreignClaimFirst, if_neg hpend,
      advanceDropNotices_of_none_due (s := modifyTrack t.key _ (urgentRest rest s)) hfar, hv]
    exact congrArg _ (syncBar_of_inStep hbar)
  · obtain ⟨a, ha⟩ : ∃ a : State, a = { countUnknownId (urgentRest rest s) with claim.dropNotices := nearer later } :=
      ⟨_, rfl⟩
    have hbara : BarInStep a := by rw [ha]; exact hbar
    have hka : keepsTracks a = true := by rw [ha]; exact (keepsTracks_iff s).2 hkeeps
    have hta : trackOf n.id a = some t := by rw [ha]; exact ht
    have hprof : prof a = prof s := by rw [ha]; rfl
    have hown' : a.claim.ownClaims = s.claim.ownClaims := by rw [ha]; rfl
    have hadvance : exec .claimEntryTaken s = .next (syncBar (applyDropNotice a { n with remaining := 0 })) := by
      rw [hexec, applyClaim_of_unknown (s := urgentRest rest s) _ ((keepsTracks_iff s).2 hkeeps) hunknown,
        advanceDropNotices_of_first_due (s := countUnknownId (urgentRest rest s)) hdrops hn hl, ha]
    rw [hadvance, hlater, hv]
    refine ⟨fun hk => ?_, fun hk ho => ?_, fun r hk ho hr hid hmet hgive horphan => ?_,
      fun r m hk ho hr hid hmet htaken horphan => ?_⟩
    · rw [applyDropNotice, hk]
      dsimp only
      rw [applyFired_of_known _ hka hta, hprof]
      refine congrArg _ ((syncBar_of_sameBar hbara {}).trans ?_)
      rw [ha]
      rfl
    · rw [applyDropNotice, hk]
      dsimp only
      rw [hprof, applyRelease_quiet hka hta ho (.inl rfl)]
      refine congrArg _ ((syncBar_of_sameBar hbara {}).trans ?_)
      rw [ha]
      simp only [modifyTrack, releaseTrack_eq]
      rfl
    · rw [applyDropNotice, hk]
      dsimp only
      rw [applyClaim_of_free _ _ hka hta ho, if_pos rfl,
        ownClaimFirst_of_single (s := modifyTrack t.key _ a) (hown'.trans hr) hid hmet hgive horphan]
      refine congrArg _ ((syncBar_of_sameBar (s := armEntry t.key a) (armEntry_inStep hbara) {}).trans ?_)
      rw [armEntry_setOwn_eq, hprof, ha]
      rfl
    · rw [applyDropNotice, hk]
      dsimp only
      rw [applyClaim_of_owned _ _ hka hta ho, if_pos rfl,
        ownClaimNotFirst_of_single (s := countIgnored a) (hown'.trans hr) hid hmet htaken horphan]
      refine congrArg _ ((syncBar_of_sameBar hbara {}).trans ?_)
      rw [ha]
      rfl

/-- With no drop notice waiting, the end of a command on the urgent queue changes nothing further (R135, R163). -/
theorem syncBar_advanceDropNotices {s t : State} (h : BarInStep s) (ht : SameBar t s) (hd : t.claim.dropNotices = []) :
    syncBar (advanceDropNotices t) = t := by
  rw [advanceDropNotices_of_nil hd, syncBar_of_sameBar h ht]

/-- Settles O34. -/
theorem ownClaimMetFirstWinsThePiece : Obligations.OwnClaimMetFirstWinsThePiece := by
  intro s e rest id c t r hbar hurgent hwire hown horigin hdrops heject ht ho hr hid hmet hgive horphan
  have happly : applyClaim id e.origin true (urgentRest rest s)
      = ownClaimFirst t.key id (modifyTrack t.key (fun u => { u with owner := some (prof s).node }) (urgentRest rest s)) := by
    rw [horigin]
    exact applyClaim_of_free _ _ ((keepsTracks_iff s).2 (.inr heject)) ht ho
  rw [exec_claimEntryTaken hurgent hwire, hown, happly,
    ownClaimFirst_of_single (s := modifyTrack t.key _ (urgentRest rest s)) hr hid hmet hgive horphan, armEntry_setOwn_eq]
  exact congrArg _ (syncBar_advanceDropNotices (s := armEntry t.key s) (armEntry_inStep hbar)
    { entries := by simp only [armEntry, Bool.and_eq_true, decide_eq_true_eq]; rfl } (by exact hdrops))

/-- Settles O36. -/
theorem releaseFromTheOwnerFreesThePiece : Obligations.ReleaseFromTheOwnerFreesThePiece := by
  intro s e rest id why hbar hurgent hwire hdrops hkeeps
  have hk : keepsTracks (urgentRest rest s) = true := (keepsTracks_iff s).2 hkeeps
  rw [exec_releaseEntryTaken hurgent hwire]
  refine ⟨fun ht => ?_, fun t ht ho => ?_, fun t ht ho hquiet => ?_, fun t ht ho hown heject hlost hhalt => ?_⟩
  · rw [applyRelease_of_unknown _ _ hk ht]
    exact congrArg _ (syncBar_advanceDropNotices hbar {} (by exact hdrops))
  · rw [applyRelease_of_other _ hk ht ho]
    exact congrArg _ (syncBar_advanceDropNotices hbar {} (by exact hdrops))
  · rw [applyRelease_quiet (s := urgentRest rest s) hk ht ho hquiet]
    refine congrArg _ ((syncBar_advanceDropNotices hbar {} (by exact hdrops)).trans ?_)
    simp only [modifyTrack, releaseTrack_eq]
    rfl
  · have happly : applyRelease id e.origin false (urgentRest rest s)
        = modifyTrack t.key (fun u => { releaseTrack e.origin u with own := .none }) (urgentRest rest s) := by
      have htrack : trackOf id (urgentRest rest s) = some t := ht
      have heject' : (prof (urgentRest rest s)).eject = true := heject
      have hstation : (urgentRest rest s).port.station = .halting := hhalt
      simp only [applyRelease, hk, htrack, ho, heject', hlost, hstation, Bool.not_true, Bool.false_eq_true, if_false, if_true,
        Bool.or_self, reduceCtorEq, decide_false, Bool.and_false]
      exact modifyTrack_modifyTrack (f := releaseTrack e.origin) (fun _ => rfl) _
    rw [hown, happly]
    refine congrArg _ ((syncBar_advanceDropNotices hbar {} (by exact hdrops)).trans ?_)
    simp only [modifyTrack, releaseTrack_eq]
    rfl

theorem matchHeld_of_outside {s : State} {earliest latest : Count}
    (h : ∀ a ∈ s.chute.held, (a.count - earliest).toInt < 0 ∨ 0 < (a.count - latest).toInt) :
    matchHeld earliest latest s = none := by
  refine takeFirst_eq_none fun a ha => ?_
  have hout := h a ha
  rw [inWindow, ← Bool.not_eq_true, Bool.and_eq_true, decide_eq_true_eq, decide_eq_true_eq, signedDiff, signedDiff]
  omega

/-- A FIRED of the watched bar that no held arrival meets puts an expectation (R184). -/
theorem watchedFired_of_room {s : State} {id : PieceId} {close : Count} (hroom : s.chute.expectations.length < 16)
    (hahead : reached s (close + BitVec.ofNat 32 (prof s).flightMax) = false)
    (hheld : ∀ a ∈ s.chute.held,
      (a.count - (close + BitVec.ofNat 32 (prof s).flightMin)).toInt < 0
        ∨ 0 < (a.count - (close + BitVec.ofNat 32 (prof s).flightMax)).toInt) :
    watchedFired id close s
      = { s with
          chute.nextAge := s.chute.nextAge + 1
          chute.expectations :=
            placeExpectation
              { id := id
                earliest := close + BitVec.ofNat 32 (prof s).flightMin
                latest := close + BitVec.ofNat 32 (prof s).flightMax
                age := s.chute.nextAge } s.chute.expectations } := by
  have hmatch : matchHeld (close + counts (prof s).flightMin) (close + counts (prof s).flightMax) s = none :=
    matchHeld_of_outside hheld
  have hahead' : ¬ reached s (close + counts (prof s).flightMax) = true := Bool.not_eq_true _ ▸ hahead
  have hroom' : roomForExpectation s = s := if_pos hroom
  unfold watchedFired
  dsimp only
  rw [hmatch]
  dsimp only
  rw [putExpectation, hroom']
  dsimp only
  rw [if_neg hahead']
  rfl

/-- Settles O37. -/
theorem firedIsRecordedAndHandedToTheChuteCheck : Obligations.FiredIsRecordedAndHandedToTheChuteCheck := by
  intro s e rest since info close hbar hurgent hwire hdrops hclose
  rw [exec_firedEntryTaken hurgent hwire]
  refine ⟨fun hkeeps hcheck => ⟨fun t ht => ?_, fun ht => ?_⟩, fun hs he hcheck => ⟨fun hbarNode => ?_,
    fun hbarNode hroom hahead hheld => ?_⟩⟩
  · have hk : keepsTracks (urgentRest rest s) = true := (keepsTracks_iff s).2 hkeeps
    have hcheck' : ¬ (prof s).check = true := by simp [hcheck]
    rw [applyFired_of_known _ hk ht]
    refine congrArg _ ((congrArg (fun a => syncBar (advanceDropNotices a)) (if_neg hcheck')).trans ?_)
    exact syncBar_advanceDropNotices hbar {} (by exact hdrops)
  · have hk : keepsTracks (urgentRest rest s) = true := (keepsTracks_iff s).2 hkeeps
    have hcheck' : ¬ (prof s).check = true := by simp [hcheck]
    rw [applyFired_of_unknown _ hk ht]
    refine congrArg _ ((congrArg (fun a => syncBar (advanceDropNotices a)) (if_neg hcheck')).trans ?_)
    exact syncBar_advanceDropNotices hbar {} (by exact hdrops)
  all_goals
    have hnone : applyFired info.id e.origin (urgentRest rest s) = urgentRest rest s := by
      simp [applyFired, show keepsTracks (urgentRest rest s) = false from keepsTracks_eq_false hs he]
    have hhand (u : State) (hu : chuteTakesFired info.id e.origin e.latch since (urgentRest rest s) = u) :
        handFired info.id e.origin e.latch since (urgentRest rest s) = u := (if_pos hcheck).trans hu
    rw [hnone]
  · rw [hhand _ (if_neg hbarNode)]
    exact congrArg _ (syncBar_advanceDropNotices hbar {} (by exact hdrops))
  · have hput : chuteTakesFired info.id e.origin e.latch since (urgentRest rest s)
        = { urgentRest rest s with
            chute.firedTaken := bump s.chute.firedTaken
            chute.nextAge := s.chute.nextAge + 1
            chute.expectations :=
              placeExpectation
                { id := info.id
                  earliest := close + BitVec.ofNat 32 (prof s).flightMin
                  latest := close + BitVec.ofNat 32 (prof s).flightMax
                  age := s.chute.nextAge } s.chute.expectations } := by
      refine (if_pos hbarNode).trans ?_
      rw [← hclose]
      exact watchedFired_of_room (s := { urgentRest rest s with chute.firedTaken := bump s.chute.firedTaken }) hroom hahead hheld
    rw [hhand _ hput]
    exact congrArg _ (syncBar_advanceDropNotices hbar {} (by exact hdrops))

end Sys2Proof.Machine
end

/-! ### What notices and departures touch (R96, R166) -/

section
namespace Sys2Proof.Machine

set_option Elab.async false

/-- A track but for its UNANNOUNCED mark, the one thing that a PIECE's outcome writes (R51). -/
def announcedAs (t : Track) : Track := { t with unannounced := false }

/-- What adding a notice and the outcome of one may change: slots, counts, recent firings and UNANNOUNCED marks. -/
def Noticed (s t : State) : Prop :=
  ∃ tracks slots next skipped unsent confirmUnsent recent drops,
    t = { s with
          engine.tracks := tracks
          link.slots := slots
          link.nextHandle := next
          members.skipped := skipped
          claim.unsent := unsent
          chute.confirmUnsent := confirmUnsent
          valves.recent := recent
          valves.recentDrops := drops }
      ∧ tracks.map announcedAs = s.engine.tracks.map announcedAs

theorem Noticed.refl (s : State) : Noticed s s := ⟨_, _, _, _, _, _, _, _, rfl, rfl⟩

theorem Noticed.trans {a b c : State} (h : Noticed a b) (k : Noticed b c) : Noticed a c := by
  obtain ⟨t, s, n, k, u, f, r, d, rfl, ht⟩ := h
  obtain ⟨t', s', n', k', u', f', r', d', rfl, ht'⟩ := k
  exact ⟨_, _, _, _, _, _, _, _, rfl, ht'.trans ht⟩

theorem Noticed.of_slots {s : State} (slots : List Slot) (next : Nat) :
    Noticed s { s with link.slots := slots, link.nextHandle := next } := ⟨_, _, _, _, _, _, _, _, rfl, rfl⟩

theorem noticeOutcome_noticed (n : Notice) (r : TxReport) (s : State) : Noticed s (noticeOutcome n r s) := by
  unfold noticeOutcome
  cases n with
  | piece d info =>
    change Noticed s (pieceOutcome info.id r s)
    unfold pieceOutcome
    split
    · exact .refl s
    · refine ⟨_, _, _, _, _, _, _, _, rfl, ?_⟩
      rw [List.map_map]
      refine List.map_congr_left fun t _ => ?_
      simp only [Function.comp]
      split <;> rfl
  | claim id c => exact .refl s
  | heartbeat b =>
    dsimp only
    split
    · exact .refl s
    · exact ⟨_, _, _, _, _, _, _, _, rfl, rfl⟩
  | release id why =>
    dsimp only
    split
    · exact .refl s
    · exact ⟨_, _, _, _, _, _, _, _, rfl, rfl⟩
  | fired c info =>
    dsimp only
    split
    · exact .refl s
    · exact ⟨_, _, _, _, _, _, _, _, rfl, rfl⟩
  | confirm id ch res =>
    dsimp only
    split
    · exact .refl s
    · exact ⟨_, _, _, _, _, _, _, _, rfl, rfl⟩

theorem slotAdd_noticed {n : Notice} {d : Option Count} {s t : State} {k : Nat} (h : slotAdd n d s = some (t, k)) :
    Noticed s t := by
  unfold slotAdd at h
  split at h
  · cases h
  · rename_i u hu
    cases h
    refine Noticed.trans ?_ (.of_slots _ _)
    unfold roomForAdd at hu
    split at hu
    · cases hu
    split at hu
    · cases hu; exact .refl s
    split at hu
    · split at hu <;> cases hu
      exact Noticed.trans (.of_slots _ _) (noticeOutcome_noticed _ _ _)
    · cases hu

theorem addNotice_noticed (n : Notice) (d : Option Count) {refused : State → State}
    (hr : ∀ a, Noticed a (refused a)) (s : State) : Noticed s (addNotice n d refused s) := by
  unfold addNotice
  split
  · exact hr s
  · rename_i hk
    have hadd := slotAdd_noticed hk
    split
    · exact hadd.trans (Noticed.trans (.of_slots _ _) (noticeOutcome_noticed _ _ _))
    · exact hadd

theorem countUnsent_noticed (s : State) : Noticed s (countUnsent s) := ⟨_, _, _, _, _, _, _, _, rfl, rfl⟩

theorem recordFiring_noticed (id : PieceId) (vs : ValveSet) (s : State) : Noticed s (recordFiring id vs s) := by
  unfold recordFiring
  split <;> exact ⟨_, _, _, _, _, _, _, _, rfl, rfl⟩

theorem requestFired_noticed (e : Entry) (t : Track) (s : State) : Noticed s (requestFired e t s) :=
  addNotice_noticed _ _ countUnsent_noticed s

/-! #### Tracks through such a change -/

theorem find_announced {l m : List Track} (p : Track → Bool) (hp : ∀ t, p (announcedAs t) = p t)
    (h : m.map announcedAs = l.map announcedAs) : (m.find? p).map announcedAs = (l.find? p).map announcedAs := by
  have hmap (l : List Track) : (l.find? p).map announcedAs = (l.map announcedAs).find? p := by
    rw [List.find?_map]
    congr 2
    exact funext fun t => (hp t).symm
  rw [hmap, hmap, h]

theorem Noticed.tracks {s t : State} (h : Noticed s t) :
    t.engine.tracks.map announcedAs = s.engine.tracks.map announcedAs := by
  obtain ⟨_, _, _, _, _, _, _, _, rfl, ht⟩ := h
  exact ht

theorem Noticed.trackAt {s t : State} (h : Noticed s t) (k : Nat) :
    (trackAt k t).map announcedAs = (trackAt k s).map announcedAs :=
  find_announced _ (fun _ => rfl) h.tracks

theorem Noticed.trackOf {s t : State} (h : Noticed s t) (id : PieceId) :
    (trackOf id t).map announcedAs = (trackOf id s).map announcedAs :=
  find_announced _ (fun _ => rfl) h.tracks

theorem Noticed.sched {s t : State} (h : Noticed s t) : t.sched = s.sched := by
  obtain ⟨_, _, _, _, _, _, _, _, rfl, _⟩ := h
  rfl

theorem Noticed.port {s t : State} (h : Noticed s t) : t.port = s.port := by
  obtain ⟨_, _, _, _, _, _, _, _, rfl, _⟩ := h
  rfl

/-! #### A slot cancelled for a claim that has been given up (R139 to R142) -/

/-- Every record under a handle has been given up. -/
def GivenUp (h : Nat) (s : State) : Prop := ∀ r ∈ s.claim.ownClaims, r.handle = h → r.giveUp.isSome = true

theorem claimOutcome_of_givenUp {h : Nat} {report : TxReport} {s : State} (hline : reachedLine report.outcome = false)
    (hg : GivenUp h s) : ∃ records, (claimOutcome h report s).1 = { s with claim.ownClaims := records } := by
  unfold claimOutcome
  cases hf : s.claim.ownClaims.find? (fun x => x.handle = h) with
  | none => exact ⟨s.claim.ownClaims, rfl⟩
  | some r =>
    obtain ⟨why, hwhy⟩ := Option.isSome_iff_exists.1
      (hg r (List.mem_of_find?_eq_some hf) (by simpa using List.find?_some hf))
    dsimp only
    rw [hline, if_neg Bool.false_ne_true, hwhy]
    exact ⟨_, rfl⟩

theorem cancelSlot_of_none {h : Nat} {s : State} (hx : slotAt h s = none) : cancelSlot h s = (s, none) := by
  rw [cancelSlot, hx]

theorem cancelSlot_of_pending {h : Nat} {s : State} {x : Slot} (hx : slotAt h s = some x) (hst : x.status = .pending) :
    cancelSlot h s = endSlot x (.cancelled .requested) s := by
  rw [cancelSlot, hx]
  dsimp only
  rw [hst]

theorem cancelSlot_of_sending {h : Nat} {s : State} {x : Slot} (hx : slotAt h s = some x) (hst : x.status = .sending) :
    cancelSlot h s = (modifySlot h (fun y => { y with status := .cancelPending }) s, none) := by
  rw [cancelSlot, hx]
  dsimp only
  rw [hst]

theorem cancelSlot_of_cancelPending {h : Nat} {s : State} {x : Slot} (hx : slotAt h s = some x)
    (hst : x.status = .cancelPending) : cancelSlot h s = (s, none) := by
  rw [cancelSlot, hx]
  dsimp only
  rw [hst]

/-- The slot's end takes the record out and drops no entry. -/
theorem cancelSlot_of_givenUp {h : Nat} {s : State} (hg : GivenUp h s) :
    ∃ a records, Noticed s a ∧ (cancelSlot h s).1 = { a with claim.ownClaims := records } := by
  cases hx : slotAt h s with
  | none => exact ⟨s, s.claim.ownClaims, .refl s, by rw [cancelSlot_of_none hx]⟩
  | some x =>
    have hhandle : x.handle = h := by simpa using List.find?_some hx
    have hgone : Noticed s (removeSlot x.handle s) := .of_slots _ _
    cases hst : x.status with
    | pending =>
      rw [cancelSlot_of_pending hx hst]
      unfold endSlot
      split
      · obtain ⟨records, hr⟩ := claimOutcome_of_givenUp (h := x.handle) (report := ⟨.cancelled .requested, x.latch⟩)
          (s := removeSlot x.handle s) rfl (hhandle ▸ hg)
        exact ⟨_, records, hgone, hr⟩
      · exact ⟨_, (noticeOutcome _ _ (removeSlot x.handle s)).claim.ownClaims, hgone.trans (noticeOutcome_noticed _ _ _), rfl⟩
    | sending =>
      rw [cancelSlot_of_sending hx hst]
      exact ⟨modifySlot h (fun y => { y with status := .cancelPending }) s, s.claim.ownClaims, .of_slots _ _, rfl⟩
    | cancelPending => exact ⟨s, s.claim.ownClaims, .refl s, by rw [cancelSlot_of_cancelPending hx hst]⟩

theorem givenUp_modifyRecord (h : Nat) (why : GiveUp) (s : State) :
    GivenUp h (modifyRecord h (fun r => { r with giveUp := some why }) s) := by
  intro r hr hh
  obtain ⟨y, hy, rfl⟩ := List.mem_map.1 hr
  by_cases hyh : y.handle = h
  · simp [hyh]
  · rw [if_neg hyh] at hh
    exact absurd hh hyh

/-! #### A departure leaves its record, and the other entries, as they are -/

/-- The schedule, the supply with its charge timer and faults, and the outcome queue are the same. -/
structure SameRecords (t s : State) : Prop where
  entries : t.sched.entries = s.sched.entries := by rfl
  supply : t.air.supply = s.air.supply := by rfl
  outcomes : t.port.outcomes = s.port.outcomes := by rfl
  chargeTimer : t.air.chargeTimer = s.air.chargeTimer := by rfl
  faults : t.air.faults = s.air.faults := by rfl

theorem SameRecords.trans {a b c : State} (h : SameRecords a b) (k : SameRecords b c) : SameRecords a c :=
  ⟨h.entries.trans k.entries, h.supply.trans k.supply, h.outcomes.trans k.outcomes, h.chargeTimer.trans k.chargeTimer,
    h.faults.trans k.faults⟩

theorem Noticed.sameRecords {s t : State} (h : Noticed s t) : SameRecords t s := by
  obtain ⟨_, _, _, _, _, _, _, _, rfl, _⟩ := h
  exact {}

theorem scheduleEmptied_air (s : State) :
    ∃ a, scheduleEmptied s = { s with air := a } ∧ a.supply = s.air.supply ∧ a.chargeTimer = s.air.chargeTimer
      ∧ a.faults = s.air.faults := by
  unfold scheduleEmptied startStandbyTimer
  repeat' split
  all_goals exact ⟨_, rfl, rfl, rfl, rfl⟩

theorem linkCleared_change (k : Nat) (s : State) :
    ∃ e c a, linkCleared k s = { s with engine := e, claim := c, air := a } ∧ a.supply = s.air.supply
      ∧ a.chargeTimer = s.air.chargeTimer ∧ a.faults = s.air.faults := by
  have hretired (u : State) (hu : ∃ e c, u = { s with engine := e, claim := c }) :
      ∃ e c a, scheduleEmptied u = { s with engine := e, claim := c, air := a } ∧ a.supply = s.air.supply
        ∧ a.chargeTimer = s.air.chargeTimer ∧ a.faults = s.air.faults := by
    obtain ⟨e, c, rfl⟩ := hu
    obtain ⟨a, ha, hs⟩ := scheduleEmptied_air { s with engine := e, claim := c }
    exact ⟨e, c, a, ha, hs⟩
  refine hretired _ ?_
  split
  · exact ⟨_, _, rfl⟩
  · split
    · split <;> exact ⟨_, _, rfl⟩
    · exact ⟨_, _, rfl⟩

theorem linkCleared_sameRecords (k : Nat) (s : State) : SameRecords (linkCleared k s) s := by
  obtain ⟨e, c, a, h, hsupply, htimer, hfaults⟩ := linkCleared_change k s
  rw [h]
  exact { supply := hsupply, chargeTimer := htimer, faults := hfaults }

theorem schedulerGaveUp_sameRecords (k : Nat) (why : GiveUp) (s : State) : SameRecords (schedulerGaveUp k why s) s := by
  unfold schedulerGaveUp
  split
  · exact {}
  · split
    · exact {}
    · rename_i t _ _ r _
      obtain ⟨a, records, ha, heq⟩ := cancelSlot_of_givenUp (h := r.handle)
        (s := setOwn t.key .none (modifyRecord r.handle (fun x => { x with giveUp := some why }) s))
        (givenUp_modifyRecord r.handle why s)
      rw [giveUpClaim, heq]
      exact SameRecords.trans (b := a) {} (ha.sameRecords.trans {})

theorem requestRelease_sameRecords (k : Nat) (why : ReleaseReason) (s : State) : SameRecords (requestRelease k why s) s := by
  unfold requestRelease
  split
  · exact {}
  · exact (addNotice_noticed _ _ countUnsent_noticed _).sameRecords.trans {}

theorem putOutcome_of_room {s : State} (r : OutcomeRecord) (h : s.port.outcomes.length < 32) :
    putOutcome r s = { s with port.outcomes := s.port.outcomes ++ [r] } := if_pos h

/-- A departure with its track there: the entries of the track are gone, and one record has joined the queue (R166). -/
theorem leave_records {e : Entry} {t : Track} {r : Result} {tell : State → State} {s : State}
    (ht : ∀ a, SameRecords (tell a) a) (htrack : trackAt e.track s = some t) (hroom : s.port.outcomes.length < 32) :
    (leave e r tell s).sched.entries = s.sched.entries.filter (fun x => x.track ≠ e.track)
      ∧ (leave e r tell s).port.outcomes = s.port.outcomes ++ [entryRecord e t r s] := by
  have hput : putOutcome (entryRecord e t r s) (removeEntry e.track s)
      = { removeEntry e.track s with port.outcomes := s.port.outcomes ++ [entryRecord e t r s] } :=
    putOutcome_of_room _ hroom
  have hall : SameRecords (leave e r tell s)
      { removeEntry e.track s with port.outcomes := s.port.outcomes ++ [entryRecord e t r s] } := by
    unfold leave
    rw [htrack]
    dsimp only
    refine (linkCleared_sameRecords _ _).trans ((ht _).trans ?_)
    rw [hput]
    split
    · exact ((recordFiring_noticed _ _ _).trans (requestFired_noticed _ _ _)).sameRecords
    · exact {}
  exact ⟨hall.entries, hall.outcomes⟩

theorem schedulerEnds_records {e : Entry} {t : Track} {r : Result} {why : GiveUp} {s : State}
    (htrack : trackAt e.track s = some t) (hroom : s.port.outcomes.length < 32) :
    (schedulerEnds e r why s).sched.entries = s.sched.entries.filter (fun x => x.track ≠ e.track)
      ∧ (schedulerEnds e r why s).port.outcomes = s.port.outcomes ++ [entryRecord e t r s] := by
  unfold schedulerEnds
  split
  · exact leave_records (schedulerGaveUp_sameRecords _ _) htrack hroom
  · exact leave_records (requestRelease_sameRecords _ _) htrack hroom
  · exact leave_records (fun _ => {}) htrack hroom

end Sys2Proof.Machine
end

/-! ### Open counts, close counts and the guard (R160 to R163, R166, R176, R177) -/

section
namespace Sys2Proof.Machine

set_option Elab.async false

theorem entryOf_eq {id : PieceId} {s : State} {t : Track} {e : Entry} (ht : trackOf id s = some t)
    (he : s.sched.entries.find? (fun x => x.track = t.key) = some e) : entryOf id s = some e := by
  rw [entryOf, ht]
  exact he

theorem exec_openCountReached {id : PieceId} {s : State} {e : Entry} (h : entryOf id s = some e) :
    exec (.openCountReached id) s
      = if reached s e.openCount then
          match e.state with
          | .reserved => .next (syncBar (schedulerEnds e (.claimLate false) .late s))
          | .armed => .next (syncBar (openCheck e s))
          | .opened => .next s
        else .next s := by
  change execOpenCountReached id s = _
  rw [execOpenCountReached, h] <;> rfl

theorem exec_openCountReached_armed {id : PieceId} {s : State} {e : Entry} (h : entryOf id s = some e)
    (hr : reached s e.openCount = true) (harmed : e.state = .armed) :
    exec (.openCountReached id) s = .next (syncBar (openCheck e s)) := by
  rw [exec_openCountReached h, if_pos hr, harmed]

theorem openCheck_opened {e : Entry} {s : State} (hrun : s.belt.motion = .running)
    (hvs : e.valves &&& activeValves s ≠ 0) (hair : s.air.supply = .ready ∨ s.air.supply = .low) :
    openCheck e s = opened e s := by
  rw [openCheck, if_neg (not_not.2 hrun)]
  dsimp only
  rw [if_neg hvs, if_pos (by simpa using hair)]
  rfl

theorem trackAt_of_trackOf {id : PieceId} {s : State} {t : Track} (h : trackOf id s = some t) :
    ∃ u, trackAt t.key s = some u := by
  refine Option.isSome_iff_exists.1 (List.find?_isSome.2 ⟨t, List.mem_of_find?_eq_some h, by simp⟩)

theorem trackAt_of_keysFresh {s : State} {t : Track} (hk : KeysFresh s) (ht : t ∈ s.engine.tracks) :
    trackAt t.key s = some t := by
  obtain ⟨u, hu⟩ := Option.isSome_iff_exists.1
    (List.find?_isSome (p := fun u : Track => decide (u.key = t.key)) |>.2 ⟨t, ht, by simp⟩)
  have hkey : u.key = t.key := by simpa using List.find?_some hu
  have hsame : u = t := List.inj_on_of_nodup_map hk.1 (List.mem_of_find?_eq_some hu) ht hkey
  rw [← hsame, hkey]
  exact hu

theorem firedOnce_eq (v : Valve) :
    firedOnce v = if v.fired ≠ 0xFFFFFFFF#32 then { v with fired := v.fired + 1 } else v := by
  unfold firedOnce
  by_cases h : v.fired = 0xFFFFFFFF#32
  · rw [if_pos h, if_neg (not_not.2 h)]
  · rw [if_neg h, if_pos h]

/-- Settles O38. -/
theorem reachedOpenCountsOpenOrEndTheEntry : Obligations.ReachedOpenCountsOpenOrEndTheEntry := by
  intro s id t e vs hbar ht he hvs
  have hentry := entryOf_eq ht he
  have hkey : e.track = t.key := by simpa using List.find?_some he
  obtain ⟨u, hu⟩ := trackAt_of_trackOf ht
  rw [← hkey] at hu
  refine ⟨fun hstay => ?_, fun hr harmed hrun hvalves hair => ?_, fun hr hroom result hresult => ?_⟩
  · rw [exec_openCountReached hentry]
    obtain h | h := hstay
    · rw [if_neg (by simp [h])]
    · rw [h]
      exact ite_self _
  · refine ⟨_, exec_openCountReached_armed hentry hr harmed, ?_⟩
    rw [openCheck_opened hrun (hvs ▸ hvalves) hair]
    have hin := (syncBar_inStep (opened e s)).1
    simp only [syncBar_frame]
    refine ⟨?_, fun v => ?_, hin, rfl, rfl, rfl, rfl, rfl⟩
    · rw [hvs]; rfl
    · change (Vector.ofFn fun (v : Fin 64) => if (e.valves &&& activeValves s).getLsbD v then firedOnce s.valves.valve[v]
        else s.valves.valve[v])[v] = _
      rw [← hvs]
      simp only [Fin.getElem_fin, Vector.getElem_ofFn, firedOnce_eq, ite_and]
  · have hends : ∃ e1 why, e1.track = e.track ∧ e1.cls = e.cls ∧ e1.openCount = e.openCount
        ∧ exec (.openCountReached id) s = .next (syncBar (schedulerEnds e1 result why s)) := by
      obtain ⟨hst, rfl⟩ | ⟨hst, hm, rfl⟩ | ⟨hst, hm, hv, rfl⟩ | ⟨hst, hm, hv, h1, h2, rfl⟩ := hresult
      · exact ⟨e, .late, rfl, rfl, rfl, by rw [exec_openCountReached hentry, if_pos hr, hst]⟩
      · refine ⟨e, .stopped, rfl, rfl, rfl, ?_⟩
        rw [exec_openCountReached_armed hentry hr hst, openCheck, if_pos hm]
      · refine ⟨{ e with valves := e.valves &&& activeValves s }, .noValve, rfl, rfl, rfl, ?_⟩
        rw [exec_openCountReached_armed hentry hr hst, openCheck, if_neg (not_not.2 hm)]
        exact congrArg (fun a => Host.Outcome.next (syncBar a)) (if_pos (hvs ▸ hv))
      · refine ⟨{ e with valves := e.valves &&& activeValves s }, .supply, rfl, rfl, rfl, ?_⟩
        rw [exec_openCountReached_armed hentry hr hst, openCheck, if_neg (not_not.2 hm)]
        refine congrArg (fun a => Host.Outcome.next (syncBar a)) ((if_neg (hvs ▸ hv)).trans (if_neg ?_))
        simp [h1, h2]
    obtain ⟨e1, why, htrack, hcls, hopen, hexec⟩ := hends
    obtain ⟨hentries, houtcomes⟩ := schedulerEnds_records (e := e1) (r := result) (why := why) (htrack ▸ hu) hroom
    have hspine := schedulerEnds_spine e1 result why s
    have haccept := congrArg (fun a : State => a.accept) hspine
    refine ⟨_, entryRecord e1 u result s, hexec, ?_⟩
    simp only [syncBar_frame]
    exact ⟨by rw [hentries, htrack], houtcomes, rfl, hcls, hopen, rfl, belt_of_spine hspine, haccept⟩

/-- A FIRED added with a FREE slot and its deadline ahead (R144). -/
theorem addNotice_of_room {n : Notice} {d : Option Count} {s : State} (refused : State → State)
    (hlink : acceptsAdds s = true) (hroom : s.link.slots.length < 8) (hahead : deadlineReached d s = false) :
    addNotice n d refused s
      = { s with
          link.slots := s.link.slots ++ [freshSlot n d s.link.nextHandle]
          link.nextHandle := s.link.nextHandle + 1 } := by
  rw [addNotice, slotAdd_of_room hlink hroom]
  refine if_neg ?_
  have hsame : deadlineReached d
      { s with
        link.slots := s.link.slots ++ [freshSlot n d s.link.nextHandle]
        link.nextHandle := s.link.nextHandle + 1 } = deadlineReached d s := by
    cases d <;> rfl
  rw [hsame, hahead]
  decide

theorem exec_guardExpiry {id : PieceId} {s : State} {e : Entry} {g : Nat} (h : entryOf id s = some e)
    (hst : e.state = .opened) (hg : e.guard = some g) :
    exec (.guardExpiry id) s = .next (syncBar (closeEntry e .fired true (clockTo g s))) := by
  change execGuardExpiry id s = _
  rw [execGuardExpiry, h]
  dsimp only
  rw [hst, hg]

theorem exec_closeCountReached {id : PieceId} {s : State} {e : Entry} (h : entryOf id s = some e)
    (hst : e.state = .opened) (hr : reached s e.closeCount = true) :
    exec (.closeCountReached id) s = .next (syncBar (closeEntry e .fired false s)) := by
  change execCloseCountReached id s = _
  rw [execCloseCountReached, h]
  exact if_pos (by simp [hst, hr])

/-- What an OPEN entry of a live track leaves when it closes FIRED, with room in every list (R144, R162, R166, R177). -/
theorem closeEntry_fired {e : Entry} {t : Track} {s : State} (cut : Bool) (htrack : trackAt e.track s = some t)
    (hopened : e.state = .opened) (houtcomes : s.port.outcomes.length < 32) (hrecent : s.valves.recent.length < 16)
    (hlink : s.link.state = .active) (hslots : s.link.slots.length < 8)
    (hahead : reached s (s.belt.count + BitVec.ofNat 32 (prof s).flightMax) = false) :
    ∃ en cl air, closeEntry e .fired cut s
      = { s with
          engine := en
          claim := cl
          air := air
          sched.entries := s.sched.entries.filter fun x => x.track ≠ e.track
          sched.cut := bumpIf cut s.sched.cut
          port.outcomes := s.port.outcomes ++ [entryRecord { e with cut := e.cut || cut } t .fired s]
          valves.recent := s.valves.recent ++ [(t.primary, e.valves)]
          link.slots :=
            s.link.slots
              ++ [freshSlot
                  (.fired s.belt.count
                    { id := t.primary
                      trimmed := e.trimmed
                      clamped := e.clamped
                      cut := e.cut || cut
                      weak := e.weak
                      first := Fin.ofNat 64 (lowestValve e.valves)
                      last := Fin.ofNat 64 (highestValve e.valves)
                      valves := BitVec.ofNat 8 (valveCount e.valves) })
                  (some (s.belt.count + BitVec.ofNat 32 (prof s).flightMax)) s.link.nextHandle]
          link.nextHandle := s.link.nextHandle + 1 } := by
  obtain ⟨a, ha⟩ : ∃ a : State, a
      = { s with
          sched.entries := s.sched.entries.filter fun x => x.track ≠ e.track
          sched.cut := bumpIf cut s.sched.cut
          port.outcomes := s.port.outcomes ++ [entryRecord { e with cut := e.cut || cut } t .fired s]
          valves.recent := s.valves.recent ++ [(t.primary, e.valves)] } := ⟨_, rfl⟩
  have hclosed : closeEntry e .fired cut s = linkCleared e.track (requestFired { e with cut := e.cut || cut } t a) := by
    have htrack' : trackAt e.track
        { s with sched.cut := bumpIf cut s.sched.cut, sched.interrupted := bumpIf (Result.fired = .interrupted) s.sched.interrupted }
        = some t := htrack
    rw [closeEntry, leave]
    dsimp only
    rw [htrack']
    dsimp only
    rw [if_pos hopened, id, ha]
    refine congrArg (fun b => linkCleared e.track (requestFired _ t b)) ?_
    refine (congrArg (recordFiring _ _) (putOutcome_of_room _ (by exact houtcomes))).trans ?_
    exact if_pos hrecent
  have hadd : requestFired { e with cut := e.cut || cut } t a
      = { a with
          link.slots :=
            a.link.slots
              ++ [freshSlot
                  (.fired a.belt.count
                    { id := t.primary
                      trimmed := e.trimmed
                      clamped := e.clamped
                      cut := e.cut || cut
                      weak := e.weak
                      first := Fin.ofNat 64 (lowestValve e.valves)
                      last := Fin.ofNat 64 (highestValve e.valves)
                      valves := BitVec.ofNat 8 (valveCount e.valves) })
                  (some (a.belt.count + BitVec.ofNat 32 (prof a).flightMax)) a.link.nextHandle]
          link.nextHandle := a.link.nextHandle + 1 } := by
    refine addNotice_of_room countUnsent ?_ ?_ ?_
    · simp [acceptsAdds, ha, hlink]
    · rw [ha]; exact hslots
    · rw [ha]; exact hahead
  obtain ⟨en, cl, air, hcleared, -⟩ := linkCleared_change e.track (requestFired { e with cut := e.cut || cut } t a)
  refine ⟨en, cl, air, ?_⟩
  rw [hclosed, hcleared, hadd, ha]
  rfl

/-- Settles O39. -/
theorem openEntriesCloseFired : Obligations.OpenEntriesCloseFired := by
  intro s id t e hkeys ht he hopened houtcomes hrecent hlink hslots hahead c cut clock hc
  have hentry := entryOf_eq ht he
  have hkey : e.track = t.key := by simpa using List.find?_some he
  have htrack : trackAt e.track s = some t := by
    rw [hkey]; exact trackAt_of_keysFresh hkeys (List.mem_of_find?_eq_some ht)
  obtain ⟨g, hcut, hexec, hclock, hcut', hguard, hclose⟩ : ∃ g : Nat, ∃ hcut : Bool, exec c s
        = .next (syncBar (closeEntry e .fired hcut { s with clock := g })) ∧ g = clock ∧ cut = (e.cut || hcut)
        ∧ (c = .guardExpiry id → hcut = true) ∧ (c = .closeCountReached id → hcut = false) := by
    obtain ⟨rfl, hr, rfl, rfl⟩ | ⟨g, rfl, hg, rfl, rfl⟩ := hc
    · exact ⟨s.clock, false, exec_closeCountReached hentry hopened hr, rfl, by simp, nofun, fun _ => rfl⟩
    · exact ⟨max s.clock g, true, exec_guardExpiry hentry hopened hg, rfl, by simp, fun _ => rfl, nofun⟩
  obtain ⟨en, cl, air, hclosed⟩ := closeEntry_fired (s := { s with clock := g }) hcut htrack hopened houtcomes hrecent hlink
    hslots hahead
  have hin := (syncBar_inStep (closeEntry e .fired hcut { s with clock := g })).1
  refine ⟨_, entryRecord { e with cut := e.cut || hcut } t .fired s, hexec, ?_⟩
  simp only [syncBar_frame]
  refine ⟨?_, ?_, hin, ?_⟩
  · rw [hclosed]; exact hclock
  · rw [hclosed, hkey]
  · rw [hclosed, hcut']
    refine ⟨rfl, rfl, rfl, rfl, rfl, rfl, rfl, rfl, fun h => ?_, fun h => ?_, rfl, rfl, rfl, rfl⟩
    · rw [hguard h]; rfl
    · rw [hclose h]; rfl

end Sys2Proof.Machine
end

/-! ### A claim lost to a peer (R139) -/

section
namespace Sys2Proof.Machine

set_option Elab.async false

/-- A departure whose track holds no retirement: its record, and else only what notices touch and the supply's timers. -/
theorem leave_noticed {e : Entry} {t : Track} {r : Result} {s : State} (htrack : trackAt e.track s = some t)
    (hheld : t.heldRetirement = false) :
    ∃ b air, Noticed (putOutcome (entryRecord e t r s) (removeEntry e.track s)) b
      ∧ leave e r id s = { b with air := air } := by
  unfold leave
  rw [htrack]
  dsimp only [id]
  obtain ⟨a, ha⟩ : ∃ a, a = putOutcome (entryRecord e t r s) (removeEntry e.track s) := ⟨_, rfl⟩
  obtain ⟨b, hb⟩ : ∃ b, b = if e.state = .opened then requestFired e t (recordFiring t.primary e.valves a) else a := ⟨_, rfl⟩
  have hnoticed : Noticed a b := by
    rw [hb]
    split
    · exact (recordFiring_noticed _ _ _).trans (requestFired_noticed _ _ _)
    · exact .refl a
  have htracks : trackAt e.track a = some t := by
    rw [ha, ← htrack]
    unfold putOutcome
    split <;> rfl
  have hkept := hnoticed.trackAt e.track
  rw [htracks] at hkept
  obtain ⟨u, hu, hut⟩ := Option.map_eq_some_iff.1 hkept
  have hheld' : u.heldRetirement = false := (congrArg Track.heldRetirement hut).trans hheld
  rw [← ha, ← hb]
  have hcleared : linkCleared e.track b = scheduleEmptied b := by
    rw [linkCleared, hu]
    simp only [hheld', Bool.false_eq_true, if_false]
  obtain ⟨air, hair, -⟩ := scheduleEmptied_air b
  exact ⟨b, air, hnoticed, hcleared.trans hair⟩

theorem spine_of_noticed {s t : State} (h : Noticed s t) : spine t = spine s := by
  obtain ⟨_, _, _, _, _, _, _, _, rfl, _⟩ := h
  rfl

/-- What the drop of a track's entry leaves, the track holding no retirement (R159, R166). -/
structure Dropped (k : Nat) (r : Result) (s t : State) : Prop where
  tracks : t.engine.tracks.map announcedAs = s.engine.tracks.map announcedAs
  records : t.claim.ownClaims = s.claim.ownClaims
  drops : t.claim.dropNotices = s.claim.dropNotices
  lost : t.claim.lost = s.claim.lost
  entries : t.sched.entries = s.sched.entries.filter fun x => x.track ≠ k
  outcome : ∀ x ∈ s.sched.entries, x.track = k → s.port.outcomes.length < 32 →
    ∃ rec, t.port.outcomes = s.port.outcomes ++ [rec] ∧ rec.result = r

theorem dropEntry_dropped {k : Nat} {r : Result} {s : State} {t : Track} (htrack : trackAt k s = some t)
    (hheld : t.heldRetirement = false) : Dropped k r s (dropEntry k r s) := by
  unfold dropEntry
  split
  · rename_i hnone
    have hno : ∀ x ∈ s.sched.entries, x.track ≠ k := by simpa [entryAt, List.find?_eq_none] using hnone
    exact ⟨rfl, rfl, rfl, rfl, (List.filter_eq_self.2 fun x hx => by simpa using hno x hx).symm,
      fun x hx hk => absurd hk (hno x hx)⟩
  · rename_i e he
    have hkey : e.track = k := by simpa using List.find?_some he
    subst hkey
    obtain ⟨b, air, hb, hleave⟩ := leave_noticed (r := r) htrack hheld
    rw [hleave]
    obtain ⟨_, _, _, _, _, _, _, _, rfl, ht⟩ := hb
    have hput : ∃ flags outcomes lost, putOutcome (entryRecord e t r s) (removeEntry e.track s)
        = { removeEntry e.track s with port.flags := flags, port.outcomes := outcomes, port.lostOutcomes := lost }
          ∧ (s.port.outcomes.length < 32 → outcomes = s.port.outcomes ++ [entryRecord e t r s]) := by
      unfold putOutcome
      split
      · exact ⟨_, _, _, rfl, fun _ => rfl⟩
      · rename_i hfull
        exact ⟨_, _, _, rfl, fun h => absurd h hfull⟩
    obtain ⟨flags, outcomes, lost, hput, hroom⟩ := hput
    rw [hput] at ht ⊢
    exact ⟨ht, rfl, rfl, rfl, rfl, fun _ _ _ h => ⟨_, hroom h, rfl⟩⟩

theorem foreignClaimFirst_of_record {t : Track} {r : OwnClaim} {n : Node} {s : State} (hp : t.own = .pending)
    (hr : recordOf t s = some r) :
    foreignClaimFirst t n s
      = examineIf (cancelSlot r.handle (dropEntry t.key (.claimLost n)
          (modifyRecord r.handle (fun x => { x with giveUp := some .lost })
            (setOwn t.key .lost { s with claim.lost := bump s.claim.lost })))) := by
  have hsame : recordOf t (setOwn t.key .lost { s with claim.lost := bump s.claim.lost }) = some r := hr
  rw [foreignClaimFirst, if_pos hp]
  dsimp only
  rw [hsame]

/-- A claim lost before its outcome is not examined again while the piece's own-state stays LOST (R142). -/
theorem claimOutcome_examines_none {h : Nat} {report : TxReport} {s : State}
    (hline : reachedLine report.outcome = false) (hlost : ∀ r ∈ s.claim.ownClaims, r.giveUp = some .lost)
    (hown : ∀ r ∈ s.claim.ownClaims, ∀ v, trackOf r.id s = some v → v.own = .lost) :
    (claimOutcome h report s).2 = none := by
  unfold claimOutcome
  cases hf : s.claim.ownClaims.find? (fun y => y.handle = h) with
  | none => rfl
  | some r =>
    have hmem : r ∈ s.claim.ownClaims := List.mem_of_find?_eq_some hf
    dsimp only
    rw [hline, if_neg Bool.false_ne_true, hlost r hmem]
    change reexamineAfter r (removeRecord h s) = none
    unfold reexamineAfter
    rw [hlost r hmem]
    split
    · rfl
    · have hsame : trackOf r.id (removeRecord h s) = trackOf r.id s := rfl
      rw [hsame]
      cases ht : trackOf r.id s with
      | none => rfl
      | some v => simp [hown r hmem v ht]

theorem cancelSlot_examines_none {h : Nat} {s : State} (hlost : ∀ r ∈ s.claim.ownClaims, r.giveUp = some .lost)
    (hown : ∀ r ∈ s.claim.ownClaims, ∀ v, trackOf r.id s = some v → v.own = .lost) : (cancelSlot h s).2 = none := by
  cases hx : slotAt h s with
  | none => rw [cancelSlot_of_none hx]
  | some x =>
    cases hst : x.status with
    | sending => rw [cancelSlot_of_sending hx hst]
    | cancelPending => rw [cancelSlot_of_cancelPending hx hst]
    | pending =>
      rw [cancelSlot_of_pending hx hst]
      unfold endSlot
      split
      · exact claimOutcome_examines_none rfl hlost hown
      · rfl

/-- The tracks after a peer has become the owner of a track whose claim is thereby lost (R139). -/
def tracksLost (k : Nat) (n : Node) (tracks : List Track) : List Track :=
  tracks.map fun u => if u.key = k then { u with owner := some n, own := .lost } else u

theorem find_tracksLost {k : Nat} {n : Node} {tracks : List Track} {p : Track → Bool} {t : Track}
    (hp : ∀ u : Track, p { u with owner := some n, own := .lost } = p u) (ht : tracks.find? p = some t) (hk : t.key = k) :
    (tracksLost k n tracks).find? p = some { t with owner := some n, own := .lost } := by
  have hcomp : (p ∘ fun u : Track => if u.key = k then { u with owner := some n, own := .lost } else u) = p := by
    funext u
    simp only [Function.comp]
    split
    · exact hp u
    · rfl
  rw [tracksLost, List.find?_map, hcomp, ht, Option.map_some, if_pos hk]

/-- Settles O35. -/
theorem peerClaimMetFirstLosesThePiece : Obligations.PeerClaimMetFirstLosesThePiece := by
  intro s e rest id c t r hkeys hurgent hwire hown hdrops heject ht ho hpend hheld hr hid hfirst
  have hid' : hasId id t = true := List.find?_some ht
  obtain ⟨a, ha⟩ : ∃ a : State, a
      = modifyRecord r.handle (fun x => { x with giveUp := some .lost })
          (setOwn t.key .lost
            { modifyTrack t.key (fun u => { u with owner := some e.origin }) (urgentRest rest s) with
              claim.lost := bump s.claim.lost }) := ⟨_, rfl⟩
  have hforeign : applyClaim id e.origin false (urgentRest rest s)
      = examineIf (cancelSlot r.handle (dropEntry t.key (.claimLost e.origin) a)) := by
    have hrecord : recordOf t (modifyTrack t.key (fun u => { u with owner := some e.origin }) (urgentRest rest s)) = some r := by
      change s.claim.ownClaims.find? (fun y => hasId y.id t) = some r
      rw [hr]
      simp [hid, hid']
    rw [applyClaim_of_free (s := urgentRest rest s) _ _ ((keepsTracks_iff s).2 (.inr heject)) ht ho,
      if_neg Bool.false_ne_true, foreignClaimFirst_of_record hpend hrecord, ha]
    rfl
  have htracks : a.engine.tracks = tracksLost t.key e.origin s.engine.tracks := by
    have htwo : setOwn t.key .lost (modifyTrack t.key (fun u => { u with owner := some e.origin }) s)
        = modifyTrack t.key (fun u => { u with owner := some e.origin, own := .lost }) s :=
      modifyTrack_modifyTrack (f := fun u => { u with owner := some e.origin }) (fun _ => rfl) s
    rw [ha]
    exact congrArg (fun b : State => b.engine.tracks) htwo
  have hrecords : a.claim.ownClaims = [{ r with giveUp := some .lost }] := by
    rw [ha]
    change (s.claim.ownClaims.map fun x => if x.handle = r.handle then { x with giveUp := some .lost } else x) = _
    simp [hr]
  have hlive : trackAt t.key a = some { t with owner := some e.origin, own := .lost } := by
    rw [trackAt, htracks]
    exact find_tracksLost (fun _ => rfl) (trackAt_of_keysFresh hkeys (List.mem_of_find?_eq_some ht)) rfl
  have hnamed : trackOf id a = some { t with owner := some e.origin, own := .lost } := by
    rw [trackOf, htracks]
    exact find_tracksLost (fun _ => rfl) ht rfl
  obtain ⟨d, hd⟩ : ∃ d, d = dropEntry t.key (.claimLost e.origin) a := ⟨_, rfl⟩
  have hdropped : Dropped t.key (.claimLost e.origin) a d := hd ▸ dropEntry_dropped hlive hheld
  have hgiven : ∀ y ∈ d.claim.ownClaims, y = { r with giveUp := some .lost } := by
    rw [hdropped.records, hrecords]
    simp
  obtain ⟨b, records, hb, hcancel⟩ := cancelSlot_of_givenUp (h := r.handle) (s := d)
    (fun y hy _ => by rw [hgiven y hy]; rfl)
  have hnone : (cancelSlot r.handle d).2 = none := by
    refine cancelSlot_examines_none (fun y hy => by rw [hgiven y hy]) fun y hy v hv => ?_
    rw [hgiven y hy] at hv
    have hsame := find_announced (hasId id) (fun _ => rfl) hdropped.tracks
    change (trackOf id d).map announcedAs = (trackOf id a).map announcedAs at hsame
    rw [hnamed, ← hid, hv] at hsame
    exact congrArg Track.own (Option.some.inj hsame)
  have hstate : examineIf (cancelSlot r.handle d) = { b with claim.ownClaims := records } := by
    rw [examineIf, hnone, hcancel]
  have hspine : spine d = spine a := hd ▸ dropEntry_spine _ _ _
  have hbspine := (spine_of_noticed hb).trans hspine
  have hbdrops : b.claim.dropNotices = [] := by
    obtain ⟨_, _, _, _, _, _, _, _, rfl, _⟩ := hb
    exact hdropped.drops.trans (by rw [ha]; exact hdrops)
  have hblost : b.claim.lost = bump s.claim.lost := by
    obtain ⟨_, _, _, _, _, _, _, _, rfl, _⟩ := hb
    exact hdropped.lost.trans (by rw [ha]; rfl)
  refine ⟨_, exec_claimEntryTaken hurgent hwire, ?_⟩
  rw [hown, hforeign, ← hd, hstate, advanceDropNotices_of_nil (by exact hbdrops)]
  simp only [syncBar_frame]
  have haccept := congrArg (fun x : State => x.accept.urgent) hbspine
  have hbelt := congrArg (fun x : State => x.belt) hbspine
  have hintake := congrArg (fun x : State => x.intake) hbspine
  have hpeers := congrArg (fun x : State => x.members.peers) hbspine
  have hsched : a.sched = s.sched := by rw [ha]; rfl
  have hport : a.port = s.port := by rw [ha]; rfl
  refine ⟨haccept.trans (by rw [ha]; rfl), hblost, ?_, fun v hv hk => ?_, fun x hx hk hroom => ?_,
    hbelt.trans (by rw [ha]; rfl), hintake.trans (by rw [ha]; rfl), hpeers.trans (by rw [ha]; rfl)⟩
  · rw [hb.sched, hdropped.entries, hsched]
  · have hmem : announcedAs v ∈ a.engine.tracks.map announcedAs := by
      rw [← hdropped.tracks, ← hb.tracks]
      exact List.mem_map_of_mem hv
    obtain ⟨w, hw, hwv⟩ := List.mem_map.1 hmem
    rw [htracks] at hw
    obtain ⟨z, -, rfl⟩ := List.mem_map.1 hw
    have hzkey := congrArg Track.key hwv
    have hzown := congrArg Track.own hwv
    have hzowner := congrArg Track.owner hwv
    by_cases hz : z.key = t.key
    · rw [if_pos hz] at hzown hzowner
      exact ⟨hzown.symm, hzowner.symm⟩
    · rw [if_neg hz] at hzkey
      exact absurd (hzkey.trans hk) hz
  · obtain ⟨rec, hrec, hresult⟩ := hdropped.outcome x (hsched ▸ hx) hk (hport ▸ hroom)
    exact ⟨rec, by rw [hb.port, hrec, hport], hresult⟩

end Sys2Proof.Machine
end

/-! ### Arrivals and expiries in the chute check unit (R185 to R188) -/

section
namespace Sys2Proof.Machine

set_option Elab.async false

theorem inWindow_iff (earliest latest x : Count) :
    inWindow earliest latest x = true ↔ 0 ≤ (x - earliest).toInt ∧ (x - latest).toInt ≤ 0 := by
  rw [inWindow, Bool.and_eq_true, decide_eq_true_eq, decide_eq_true_eq, signedDiff, signedDiff]

/-- An add of a NORMAL or ROUTINE notice that the slots refuse (R93). -/
theorem roomForAdd_of_refused {cls : AccessClass} {s : State} (hcls : cls ≠ .urgent)
    (h : (∃ cause, s.link.state = .silent cause) ∨ 8 ≤ s.link.slots.length) : roomForAdd cls s = none := by
  unfold roomForAdd
  rcases h with ⟨cause, hsilent⟩ | hfull
  · rw [if_pos (by simp [acceptsAdds, hsilent])]
  · rw [if_neg (show ¬ s.link.slots.length < Config.slotSize from Nat.not_lt.2 hfull), if_neg hcls]
    split <;> rfl

theorem addNotice_of_refused {n : Notice} {d : Option Count} {s : State} (refused : State → State)
    (hcls : noticeClass n ≠ .urgent) (h : (∃ cause, s.link.state = .silent cause) ∨ 8 ≤ s.link.slots.length) :
    addNotice n d refused s = refused s := by
  rw [addNotice, slotAdd, roomForAdd_of_refused hcls h]

theorem countConfirm_link (result : ConfirmResult) (s : State) : (countConfirm result s).link = s.link := by
  cases result <;> rfl

theorem requestConfirm_of_room {id : PieceId} {result : ConfirmResult} {s : State} (hlink : s.link.state = .active)
    (hroom : s.link.slots.length < 8) :
    requestConfirm id result s
      = { countConfirm result s with
          link.slots := s.link.slots ++ [freshSlot (.confirm id (prof s).watchedChute result) none s.link.nextHandle]
          link.nextHandle := s.link.nextHandle + 1 } := by
  rw [requestConfirm, addNotice_of_room countConfirmUnsent (by simp [acceptsAdds, countConfirm_link, hlink])
    (by rw [countConfirm_link]; exact hroom) rfl]
  simp only [countConfirm_link]

theorem requestConfirm_of_refused {id : PieceId} {result : ConfirmResult} {s : State}
    (h : (∃ cause, s.link.state = .silent cause) ∨ 8 ≤ s.link.slots.length) :
    requestConfirm id result s = countConfirmUnsent (countConfirm result s) := by
  have hclass : noticeClass (.confirm id (prof s).watchedChute result) ≠ .urgent := nofun
  exact addNotice_of_refused countConfirmUnsent hclass (by rw [countConfirm_link]; exact h)

theorem foldl_min_age {e : Expectation} {l : List Expectation} (h : ∀ x ∈ l, x ≠ e → e.age < x.age) (b : Expectation)
    (hb : b = e ∨ e ∈ l ∧ e.age < b.age) : l.foldl (fun b x => if x.age < b.age then x else b) b = e := by
  induction l generalizing b with
  | nil => exact hb.resolve_right fun hmem => absurd hmem.1 (List.not_mem_nil)
  | cons y ys ih =>
    obtain ⟨hy, hys⟩ := List.forall_mem_cons.1 h
    refine ih hys _ ?_
    by_cases hye : y = e
    · refine .inl ?_
      subst hye
      rcases hb with rfl | ⟨-, hlt⟩
      · exact ite_self _
      · exact if_pos hlt
    · have hlt := hy hye
      rcases hb with rfl | ⟨hmem, hbe⟩
      · exact .inl (if_neg (Nat.lt_asymm hlt))
      · refine .inr ⟨(List.mem_cons.1 hmem).resolve_left fun h => hye h.symm, ?_⟩
        dsimp only
        split
        · exact hlt
        · exact hbe

/-- The oldest of some expectations is the one every other is younger than (R185). -/
theorem oldestOf_eq_some {e : Expectation} {l : List Expectation} (hmem : e ∈ l) (h : ∀ x ∈ l, x ≠ e → e.age < x.age) :
    oldestOf l = some e := by
  cases l with
  | nil => exact absurd hmem List.not_mem_nil
  | cons y ys =>
    obtain ⟨hy, hys⟩ := List.forall_mem_cons.1 h
    refine congrArg some (foldl_min_age hys y ?_)
    by_cases hye : y = e
    · exact .inl hye
    · exact .inr ⟨(List.mem_cons.1 hmem).resolve_left fun h => hye h.symm, hy hye⟩

theorem matchExpectation_eq_some {s : State} {x : Count} {e : Expectation} (hmem : e ∈ s.chute.expectations)
    (hin : 0 ≤ (x - e.earliest).toInt ∧ (x - e.latest).toInt ≤ 0)
    (hfirst : ∀ y ∈ s.chute.expectations, y ≠ e → 0 ≤ (x - y.earliest).toInt → (x - y.latest).toInt ≤ 0 → e.age < y.age) :
    matchExpectation x s = some e := by
  refine oldestOf_eq_some (List.mem_filter.2 ⟨hmem, (inWindow_iff ..).2 hin⟩) fun y hy hne => ?_
  obtain ⟨hmem, hyin⟩ := List.mem_filter.1 hy
  obtain ⟨hlo, hhi⟩ := (inWindow_iff ..).1 hyin
  exact hfirst y hmem hne hlo hhi

theorem matchExpectation_eq_none {s : State} {x : Count}
    (h : ∀ y ∈ s.chute.expectations, (x - y.earliest).toInt < 0 ∨ 0 < (x - y.latest).toInt) : matchExpectation x s = none := by
  have hnil : (s.chute.expectations.filter fun e => inWindow e.earliest e.latest x) = [] := by
    refine List.filter_eq_nil_iff.2 fun y hy hin => ?_
    have hout := h y hy
    obtain ⟨hlo, hhi⟩ := (inWindow_iff ..).1 hin
    omega
  rw [matchExpectation, hnil, oldestOf]

theorem takeArrival_of_match {s : State} {a : Arrival} {e : Expectation} (hchute : a.chute = (prof s).watchedChute)
    (hmatch : matchExpectation a.count s = some e) :
    takeArrival a s = requestConfirm e.id .arrived { s with chute.expectations := dropAge e.age s.chute.expectations } := by
  rw [takeArrival, if_neg (not_not_intro hchute), hmatch]

theorem takeArrival_of_noMatch {s : State} {a : Arrival} (hchute : a.chute = (prof s).watchedChute)
    (hmatch : matchExpectation a.count s = none) : takeArrival a s = holdArrival a.count s := by
  rw [takeArrival, if_neg (not_not_intro hchute), hmatch]

theorem exec_arrivalEntryTaken {s : State} {a : Arrival} {rest : List IntakeEntry} (hwork : working s = true)
    (h : takeFirst isArrivalEntry s.intake.queue = some (.arrival a, rest)) :
    exec .arrivalEntryTaken s = .next (takeArrival a { s with intake.queue := rest }) := by
  change execArrivalEntryTaken s = _
  rw [execArrivalEntryTaken, if_pos hwork, h]

theorem exec_expectationExpiry {s : State} {id : PieceId} {before after : List Expectation} {e : Expectation}
    (hwork : working s = true) (hlist : s.chute.expectations = before ++ e :: after) (hid : e.id = id)
    (hdue : reached s e.latest = true) (hbefore : ∀ x ∈ before, x.id ≠ id ∨ reached s x.latest = false) :
    exec (.expectationExpiry id) s = .next (requestConfirm id .absent { s with chute.expectations := before ++ after }) := by
  subst hid
  have htake : takeFirst (expectationDue e.id s) s.chute.expectations = some (e, before ++ after) := by
    rw [hlist]
    refine takeFirst_append_cons (fun y hy => ?_) ?_
    · rcases hbefore y hy with h | h <;> simp [expectationDue, h]
    · simp [expectationDue, hdue]
  change execExpectationExpiry e.id s = _
  rw [execExpectationExpiry, if_pos hwork, htake]

theorem exec_heldArrivalLeave {s : State} {before after : List HeldArrival} {a : HeldArrival} (hwork : working s = true)
    (hlist : s.chute.held = before ++ a :: after) (hdue : reached s a.leave = true)
    (hbefore : ∀ x ∈ before, reached s x.leave = false) :
    exec .heldArrivalLeave s = .next (countStray { s with chute.held := before ++ after }) := by
  change execHeldArrivalLeave s = _
  rw [execHeldArrivalLeave, if_pos hwork, hlist, takeFirst_append_cons hbefore hdue]

/-- Settles O46. -/
theorem arrivalsConfirmOrAreHeld : Obligations.ArrivalsConfirmOrAreHeld := by
  intro s a rest hstation htake
  rw [exec_arrivalEntryTaken ((working_iff s).2 hstation) htake]
  refine ⟨fun hother => ?_, fun e hchute hmem hlo hhi hfirst hactive hroom => ?_, fun hchute hout => ⟨fun hroom => ?_, fun hfull => ?_⟩⟩
  · exact congrArg _ (if_pos hother)
  · rw [takeArrival_of_match (by exact hchute) (matchExpectation_eq_some (by exact hmem) ⟨hlo, hhi⟩ (by exact hfirst)),
      requestConfirm_of_room (by exact hactive) (by exact hroom)]
    rfl
  · rw [takeArrival_of_noMatch (by exact hchute) (matchExpectation_eq_none (by exact hout))]
    exact congrArg _ (if_pos hroom)
  · rw [takeArrival_of_noMatch (by exact hchute) (matchExpectation_eq_none (by exact hout))]
    exact congrArg _ (if_neg (Nat.not_lt.2 hfull))

/-- Settles O47. -/
theorem waitingChuteRecordsExpire : Obligations.WaitingChuteRecordsExpire := by
  intro s id
  refine ⟨fun hrun hhalt => ?_, fun before e after hstation hlist hid hdue hbefore => ⟨fun hactive hroom => ?_, fun hrefused => ?_⟩,
    fun before a after hstation hlist hdue hbefore => ?_⟩
  · have hidle : ¬ working s = true := by
      rw [working_iff]
      exact fun h => h.elim hrun hhalt
    exact ⟨if_neg hidle, if_neg hidle⟩
  · rw [exec_expectationExpiry ((working_iff s).2 hstation) hlist hid hdue hbefore,
      requestConfirm_of_room (by exact hactive) (by exact hroom)]
    rfl
  · rw [exec_expectationExpiry ((working_iff s).2 hstation) hlist hid hdue hbefore,
      requestConfirm_of_refused (by exact hrefused)]
    rfl
  · rw [exec_heldArrivalLeave ((working_iff s).2 hstation) hlist hdue hbefore]
    rfl

end Sys2Proof.Machine
end

/-! ### The supply follows pressure-ok and its two timers (R167, R180 to R183) -/

section
namespace Sys2Proof.Machine

set_option Elab.async false

/-! #### What ending entries leaves of the supply -/

/-- The charge timer and the count of supply faults are the same. -/
structure SameCharge (t s : State) : Prop where
  timer : t.air.chargeTimer = s.air.chargeTimer := by rfl
  faults : t.air.faults = s.air.faults := by rfl

theorem SameCharge.trans {a b c : State} (h : SameCharge a b) (k : SameCharge b c) : SameCharge a c :=
  ⟨h.timer.trans k.timer, h.faults.trans k.faults⟩

theorem SameRecords.charge {t s : State} (h : SameRecords t s) : SameCharge t s := ⟨h.chargeTimer, h.faults⟩

theorem SameRecords.drive {t s : State} (h : SameRecords t s) : SameDrive t s := ⟨h.entries, h.supply⟩

theorem foldl_sameCharge {α : Type} {f : State → α → State} (h : ∀ a x, SameCharge (f a x) a) (l : List α) (s : State) :
    SameCharge (l.foldl f s) s := by
  induction l generalizing s with
  | nil => exact {}
  | cons x xs ih => exact (ih (f s x)).trans (h s x)

theorem leave_sameCharge (e : Entry) (r : Result) {tell : State → State} (ht : ∀ a, SameRecords (tell a) a) (s : State) :
    SameCharge (leave e r tell s) s := by
  unfold leave
  split
  · exact {}
  · rename_i t _
    have hput : SameCharge (putOutcome (entryRecord e t r s) (removeEntry e.track s)) s := by
      unfold putOutcome; split <;> exact {}
    dsimp only
    refine ((linkCleared_sameRecords _ _).trans (ht _)).charge.trans ?_
    split
    · exact ((recordFiring_noticed _ _ _).trans (requestFired_noticed _ _ _)).sameRecords.charge.trans hput
    · exact hput

theorem closeEntry_sameCharge (e : Entry) (r : Result) (cut : Bool) (s : State) : SameCharge (closeEntry e r cut s) s :=
  (leave_sameCharge _ _ (fun _ => {}) _).trans {}

theorem interruptAll_sameCharge (s : State) : SameCharge (interruptAll s) s :=
  foldl_sameCharge (fun _ _ => closeEntry_sameCharge _ _ _ _) _ s

/-- What the claim unit does when the scheduler ends an entry leaves the records be, so the ending is a departure. -/
theorem schedulerEnds_eq_leave (e : Entry) (r : Result) (why : GiveUp) (s : State) :
    ∃ tell, (∀ a, SameRecords (tell a) a) ∧ schedulerEnds e r why s = leave e r tell s := by
  unfold schedulerEnds
  split
  · exact ⟨_, schedulerGaveUp_sameRecords _ _, rfl⟩
  · exact ⟨_, requestRelease_sameRecords _ _, rfl⟩
  · exact ⟨id, fun _ => {}, rfl⟩

theorem schedulerEnds_sameCharge (e : Entry) (r : Result) (why : GiveUp) (s : State) :
    SameCharge (schedulerEnds e r why s) s := by
  obtain ⟨tell, htell, heq⟩ := schedulerEnds_eq_leave e r why s
  exact heq ▸ leave_sameCharge e r htell s

theorem schedulerEnds_entries (e : Entry) (r : Result) (why : GiveUp) (s : State) :
    (schedulerEnds e r why s).sched.entries = without e.track s.sched.entries
      ∧ (schedulerEnds e r why s).air.supply = s.air.supply := by
  obtain ⟨tell, htell, heq⟩ := schedulerEnds_eq_leave e r why s
  exact heq ▸ leave_entries e r tell (fun a => (htell a).drive) s

theorem interruptAll_of_noneOpen {s : State} (h : ∀ e ∈ s.sched.entries, e.state ≠ .opened) : interruptAll s = s := by
  have hnil : (s.sched.entries.filter fun e => e.state = .opened) = [] := by
    rw [List.filter_eq_nil_iff]
    exact fun e he => by simpa using h e he
  rw [interruptAll, hnil, List.foldl_nil]

theorem supplyTo_sameCharge (new : Supply) (s : State) : SameCharge (supplyTo new s) s := by
  unfold supplyTo supplyReaction
  split
  · exact {}
  · split
    · exact {}
    · exact {}
    · exact (interruptAll_sameCharge _).trans
        ((foldl_sameCharge (fun _ _ => schedulerEnds_sameCharge _ _ _ _) _ _).trans {})
    · exact (interruptAll_sameCharge _).trans {}
    · exact (interruptAll_sameCharge _).trans {}

/-- A supply fault ends every entry: those not OPEN, and then those that are (R167). -/
theorem supplyTo_fault_entries {s : State} (h : s.air.supply ≠ .fault) : (supplyTo .fault s).sched.entries = [] := by
  rw [supplyTo, if_neg h]
  change (interruptAll ((s.sched.entries.filter fun e => e.state ≠ .opened).foldl
    (fun a e => schedulerEnds e (.notFired .supply) .supply a) { s with air.supply := .fault })).sched.entries = []
  obtain ⟨a, ha⟩ : ∃ a, a = (s.sched.entries.filter fun e => e.state ≠ .opened).foldl
    (fun a e => schedulerEnds e (.notFired .supply) .supply a) { s with air.supply := .fault } := ⟨_, rfl⟩
  have hopen : ∀ e ∈ a.sched.entries, e.state = .opened := by
    intro e he
    rw [ha, (foldl_entries (fun (x : Entry) => x.track) _ (fun b x => schedulerEnds_entries x _ _ b) _ _).1, List.mem_filter] at he
    obtain ⟨hmem, hkept⟩ := he
    by_contra hne
    have hany : ((s.sched.entries.filter fun e => e.state ≠ .opened).any fun x => x.track = e.track) = true :=
      List.any_eq_true.2 ⟨e, List.mem_filter.2 ⟨hmem, by simpa using hne⟩, by simp⟩
    rw [hany] at hkept
    exact absurd hkept (by decide)
  rw [← ha, List.eq_nil_iff_forall_not_mem]
  intro e he
  have hmem : e ∈ a.sched.entries := by
    rw [(interruptAll_entries a).1] at he
    exact (List.mem_filter.1 he).1
  exact interruptAll_noneOpen a e he (hopen e hmem)

theorem supplyTo_supply (new : Supply) (s : State) : (supplyTo new s).air.supply = new := by
  unfold supplyTo supplyReaction
  split
  · assumption
  · split
    · rfl
    · rfl
    · rw [(interruptAll_entries _).2,
        (foldl_entries (fun (x : Entry) => x.track) _ (fun b x => schedulerEnds_entries x _ _ b) _ _).2]
    · rw [(interruptAll_entries _).2]
    · rw [(interruptAll_entries _).2]

theorem driveOf_of_noneOpen {s : State} (h : ∀ e ∈ s.sched.entries, e.state ≠ .opened) : driveOf s = 0 := by
  refine BitVec.eq_of_getLsbD_eq fun v _ => ?_
  refine (Bool.eq_false_iff.2 fun hv => ?_).trans BitVec.getLsbD_zero.symm
  obtain ⟨e, he, ho, -⟩ := getLsbD_driveOf.1 hv
  exact h e he ho

/-- After the bar has been told, a closed pilot and an empty drive stand on it (R163). -/
theorem syncBar_closed {s : State} (hnone : ∀ e ∈ s.sched.entries, e.state ≠ .opened) (hpilot : pilotOpen s = false) :
    (syncBar s).bar.pilot = false ∧ (syncBar s).bar.drive = 0 := by
  obtain ⟨hdrive, hopen⟩ := syncBar_inStep s
  have hsame : driveOf (syncBar s) = driveOf s := driveOf_congr (by simp)
  have hair : pilotOpen (syncBar s) = pilotOpen s := pilotOpen_congr (by simp)
  exact ⟨hopen.trans (hair.trans hpilot), hdrive.trans (hsame.trans (driveOf_of_noneOpen hnone))⟩

/-! #### The pressure-ok line -/

theorem exec_pressureOkActive {s : State} (heject : (prof s).eject = true) :
    exec .pressureOkActive s = .next (syncBar (pressureUp { s with air.pressureOk := true })) :=
  if_pos heject

theorem exec_pressureOkInactive {s : State} (heject : (prof s).eject = true) :
    exec .pressureOkInactive s = .next (syncBar (pressureDown { s with air.pressureOk := false })) :=
  if_pos heject

theorem supplyTo_ready {s : State} (h : s.air.supply ≠ .ready) : supplyTo .ready s = { s with air.supply := .ready } :=
  if_neg h

/-- The standby timer starts when charging ends on an empty schedule (R182). -/
theorem chargedUp_eq {s : State} (h : s.air.supply = .charging) :
    chargedUp s
      = { s with
          air.supply := .ready
          air.chargeTimer := none
          air.standbyTimer :=
            if s.sched.entries = [] ∧ (prof s).standbyTime ≠ 0 then some (s.clock + (prof s).standbyTime * 10000)
            else s.air.standbyTimer
          air.standbyDue := if s.sched.entries = [] ∧ (prof s).standbyTime ≠ 0 then none else s.air.standbyDue } := by
  have hready : supplyTo .ready { s with air.chargeTimer := none } = { s with air.chargeTimer := none, air.supply := .ready } :=
    supplyTo_ready (by rw [h]; nofun)
  rw [chargedUp, hready]
  dsimp only
  by_cases hempty : s.sched.entries = []
  · rw [if_pos (List.isEmpty_iff.2 hempty)]
    by_cases htime : (prof s).standbyTime = 0
    · rw [startStandbyTimer, if_pos (by exact htime), if_neg (fun k => k.2 htime), if_neg (fun k => k.2 htime)]
    · rw [startStandbyTimer, if_neg (by exact htime), if_pos ⟨hempty, htime⟩, if_pos ⟨hempty, htime⟩]
      rw [Nat.mul_assoc]
      rfl
  · rw [if_neg (fun k => hempty (List.isEmpty_iff.1 k)), if_neg (fun k => hempty k.1), if_neg (fun k => hempty k.1)]

/-- Marks change no drive (R163). -/
theorem driveOf_weak (s : State) :
    driveOf { s with sched.entries := s.sched.entries.map fun e => if e.state = .opened then { e with weak := true } else e }
      = driveOf s := by
  have hcomp (vs : ValveSet) (e : Entry) :
      (if (if e.state = .opened then { e with weak := true } else e).state = .opened
        then vs ||| (if e.state = .opened then { e with weak := true } else e).drive else vs)
        = if e.state = .opened then vs ||| e.drive else vs := by
    by_cases he : e.state = .opened
    · rw [if_pos he]
    · rw [if_neg he]
  rw [driveOf, List.foldl_map]
  simp only [hcomp]
  rfl

/-! #### The two timers -/

theorem exec_chargeTimerExpiry {s : State} {t0 : Nat} (h : s.air.supply = .charging) (ht : s.air.chargeTimer = some t0) :
    exec .chargeTimerExpiry s
      = .next (syncBar (supplyTo .fault
          (raiseFlag .supplyFault { clockTo t0 s with air.chargeTimer := none, air.faults := bump s.air.faults }))) := by
  change execChargeTimerExpiry s = _
  rw [execChargeTimerExpiry, h, ht]

theorem exec_standbyTimerExpiry {s : State} {t0 : Nat} (h : s.air.supply = .ready ∨ s.air.supply = .low)
    (ht : standbyEnd s = some t0) : exec .standbyTimerExpiry s = .next (syncBar (standDown t0 s)) := by
  change execStandbyTimerExpiry s = _
  rw [execStandbyTimerExpiry, ht]
  exact if_pos (by simpa using h)

theorem standbyEnd_eq_some {s : State} {t0 : Nat}
    (h : s.air.standbyTimer = some t0 ∨ s.air.standbyTimer = none ∧ s.air.standbyDue = some s.clock ∧ t0 = s.clock) :
    standbyEnd s = some t0 := by
  unfold standbyEnd
  obtain htimer | ⟨htimer, hdue, rfl⟩ := h
  · rw [htimer]
  · rw [htimer, if_pos hdue]

/-- A supply that leaves READY or LOW interrupts every OPEN entry (R167). -/
theorem standDown_eq {s : State} {t0 : Nat} (h : s.air.supply = .ready ∨ s.air.supply = .low) :
    standDown t0 s
      = interruptAll { clockTo t0 s with air.standbyTimer := none, air.standbyDue := none, air.supply := .standby } := by
  have hne : s.air.supply ≠ .standby := by rcases h with h | h <;> rw [h] <;> nofun
  exact if_neg hne

theorem chargeTimerExpiry_faults {s : State} {t0 : Nat} (h : s.air.supply = .charging) (ht : s.air.chargeTimer = some t0) :
    ∃ t, exec .chargeTimerExpiry s = .next t ∧ t.air.supply = .fault ∧ t.air.chargeTimer = none
      ∧ t.air.faults = bump s.air.faults ∧ t.port.flags.getLsbD 5 = true ∧ t.sched.entries = []
      ∧ t.bar.pilot = false ∧ t.bar.drive = 0 ∧ t.clock = max s.clock t0 ∧ t.belt = s.belt ∧ t.accept = s.accept := by
  obtain ⟨a, ha⟩ : ∃ a, a = raiseFlag .supplyFault
      { clockTo t0 s with air.chargeTimer := none, air.faults := bump s.air.faults } := ⟨_, rfl⟩
  have hsupply : a.air.supply ≠ .fault := by rw [ha]; exact fun hf => nomatch h.symm.trans hf
  have hcharge : SameCharge (supplyTo .fault a) a := supplyTo_sameCharge _ _
  have hspine := supplyTo_spine .fault a
  have hempty : (supplyTo .fault a).sched.entries = [] := supplyTo_fault_entries hsupply
  have hfault : (supplyTo .fault a).air.supply = .fault := supplyTo_supply _ _
  have hflag : (supplyTo .fault a).port.flags.getLsbD 5 = true := by
    rw [getLsbD_of_quietFlags (supplyTo_quietFlags .fault a) (by decide), ha]
    exact raiseFlag_getLsbD_flagBit .supplyFault _
  have hclock := clock_of_spine hspine
  have hbelt := belt_of_spine hspine
  have haccept := congrArg State.accept hspine
  have hclosed := syncBar_closed (s := supplyTo .fault a) (by rw [hempty]; nofun) (by rw [pilotOpen, hfault])
  refine ⟨_, (exec_chargeTimerExpiry h ht).trans (by rw [← ha]), ?_⟩
  simp only [syncBar_frame]
  refine ⟨hfault, hcharge.timer.trans ?_, hcharge.faults.trans ?_, hflag, hempty, hclosed.1, hclosed.2, hclock.trans ?_,
    hbelt.trans ?_, haccept.trans ?_⟩
  all_goals rw [ha]; rfl

theorem standbyTimerExpiry_standsDown {s : State} {t0 : Nat} (h : s.air.supply = .ready ∨ s.air.supply = .low)
    (ht : standbyEnd s = some t0) :
    ∃ t, exec .standbyTimerExpiry s = .next t ∧ t.air.supply = .standby
      ∧ ((∀ e ∈ s.sched.entries, e.state ≠ .opened) →
        t.air.standbyTimer = none ∧ t.sched.entries = s.sched.entries ∧ t.engine = s.engine ∧ t.port = s.port
          ∧ t.link = s.link)
      ∧ (∀ e ∈ t.sched.entries, e.state ≠ .opened) ∧ t.bar.pilot = false ∧ t.bar.drive = 0
      ∧ t.clock = max s.clock t0 ∧ t.belt = s.belt ∧ t.accept = s.accept := by
  obtain ⟨a, ha⟩ : ∃ a : State, a
      = { clockTo t0 s with air.standbyTimer := none, air.standbyDue := none, air.supply := .standby } := ⟨_, rfl⟩
  have hspine := interruptAll_spine a
  have hstandby : (interruptAll a).air.supply = .standby := (interruptAll_entries a).2.trans (by rw [ha])
  have hclock := clock_of_spine hspine
  have hbelt := belt_of_spine hspine
  have haccept := congrArg State.accept hspine
  have hclosed := syncBar_closed (interruptAll_noneOpen a) (by rw [pilotOpen, hstandby])
  refine ⟨_, (exec_standbyTimerExpiry h ht).trans (by rw [standDown_eq h, ← ha]), ?_⟩
  simp only [syncBar_frame]
  refine ⟨hstandby, fun hnone => ?_, interruptAll_noneOpen a, hclosed.1, hclosed.2, hclock.trans ?_, hbelt.trans ?_,
    haccept.trans ?_⟩
  · rw [interruptAll_of_noneOpen (by rw [ha]; exact hnone), ha]
    exact ⟨rfl, rfl, rfl, rfl, rfl⟩
  all_goals rw [ha]; rfl

/-- Settles O45. -/
theorem supplyFollowsPressureAndTimers : Obligations.SupplyFollowsPressureAndTimers := by
  intro s hbar
  refine ⟨fun heject => ?_, fun heject h => ?_, fun heject h => ?_, fun heject h => ?_, fun heject h => ?_,
    fun t0 => ⟨chargeTimerExpiry_faults, fun h ht => standbyTimerExpiry_standsDown h (standbyEnd_eq_some ht), fun htimer hdue => ?_⟩⟩
  · have hneg : ¬ (prof s).eject = true := by simp [heject]
    exact ⟨if_neg hneg, if_neg hneg⟩
  · have hup : pressureUp { s with air.pressureOk := true } = chargedUp { s with air.pressureOk := true } := by
      rw [pressureUp, h]
    rw [exec_pressureOkActive heject, hup, chargedUp_eq (by exact h)]
    exact congrArg _ (syncBar_of_inStep ⟨hbar.1, hbar.2.trans (by rw [pilotOpen, h]; rfl)⟩)
  · have hup : pressureUp { s with air.pressureOk := true } = { s with air.pressureOk := true, air.supply := .ready } := by
      rw [pressureUp, h]
      exact supplyTo_ready (by rw [h]; nofun)
    rw [exec_pressureOkActive heject, hup]
    exact congrArg _ (syncBar_of_inStep ⟨hbar.1, hbar.2.trans (by rw [pilotOpen, h]; rfl)⟩)
  · have hdown : pressureDown { s with air.pressureOk := false }
        = { s with
            air.pressureOk := false
            air.supply := .low
            sched.entries := s.sched.entries.map fun e => if e.state = .opened then { e with weak := true } else e } := by
      rw [pressureDown, h]
      exact if_neg (by rw [h]; nofun)
    rw [exec_pressureOkInactive heject, hdown]
    exact congrArg _ (syncBar_of_inStep ⟨hbar.1.trans (driveOf_weak s).symm, hbar.2.trans (by rw [pilotOpen, h]; rfl)⟩)
  · have hup : pressureUp { s with air.pressureOk := true } = { s with air.pressureOk := true } := by
      rcases h with h | h | h <;> rw [pressureUp, h]
    rw [exec_pressureOkActive heject, hup]
    exact congrArg _ (syncBar_of_sameBar hbar {})
  · have hnone : standbyEnd s = none := by rw [standbyEnd, htimer, if_neg hdue]
    change execStandbyTimerExpiry s = _
    rw [execStandbyTimerExpiry, hnone]

end Sys2Proof.Machine
end

/-! ### Driver faults and auto-cover (R163, R174, R175) -/

section
namespace Sys2Proof.Machine

set_option Elab.async false

/-! #### The bytes of a transfer -/

theorem transferBytes_length (drive : ValveSet) (pilot : Bool) : (transferBytes drive pilot).length = 9 := by
  simp [transferBytes]

theorem bitAt_transferBytes_zero (drive : ValveSet) (pilot : Bool) (k : Fin 8) :
    bitAt (transferBytes drive pilot) 0 k = (decide (k = 7) && pilot) := by
  change (if pilot then 0x80#8 else 0x00#8).getLsbD k = _
  revert k pilot
  decide

theorem bitAt_transferBytes_valve (drive : ValveSet) (pilot : Bool) (v : Fin 64) :
    bitAt (transferBytes drive pilot) (1 + v.val / 8) (v.val % 8) = drive.getLsbD v := by
  have hbyte : v.val / 8 < 8 := by omega
  have hget : (transferBytes drive pilot).getD (1 + v.val / 8) 0 = (drive >>> (8 * (v.val / 8))).setWidth 8 := by
    rw [Nat.add_comm, transferBytes, List.getD_cons_succ]
    simp [hbyte]
  have hbit : v.val % 8 < 8 := Nat.mod_lt _ (by decide)
  rw [bitAt, hget, BitVec.getLsbD_setWidth, BitVec.getLsbD_ushiftRight, decide_eq_true hbit, Bool.true_and, Nat.div_add_mod]

theorem faultMaskOf_eq {returned : List Byte} {mask : ValveSet}
    (h : ∀ v : Fin 64, mask.getLsbD v = bitAt returned (1 + v.val / 8) (v.val % 8)) : faultMaskOf returned = mask := by
  refine BitVec.eq_of_getLsbD_eq fun v hv => Bool.eq_iff_iff.2 ?_
  rw [h ⟨v, hv⟩, faultMaskOf,
    getLsbD_foldl_union (fun v => bitAt returned (1 + v / 8) (v % 8)) (fun v => BitVec.twoPow 64 v) (List.range 64) 0 v]
  constructor
  · rintro (hzero | ⟨u, -, hu, huv⟩)
    · simp at hzero
    · simp only [BitVec.getLsbD_twoPow, Bool.and_eq_true, decide_eq_true_eq] at huv
      obtain ⟨-, rfl⟩ := huv
      exact hu
  · exact fun hbit => .inr ⟨v, List.mem_range.2 hv, hbit, by simp [hv]⟩

/-! #### The counts -/

theorem toNat_bump (c : Tally) : (bump c).toNat = min 65535 (c.toNat + 1) := by
  have hlt := c.isLt
  unfold bump
  split
  · rename_i h
    rw [h]
    rfl
  · rename_i h
    have hne : c.toNat ≠ 65535 := fun hc => h (BitVec.eq_of_toNat_eq hc)
    have hone : (1 : Tally).toNat = 1 := rfl
    rw [BitVec.toNat_add, hone]
    omega

theorem toNat_bumpBy (n : Nat) (c : Tally) : (bumpBy n c).toNat = min 65535 (c.toNat + n) := by
  induction n generalizing c with
  | zero =>
    have hlt := c.isLt
    rw [bumpBy]
    omega
  | succ n ih =>
    rw [bumpBy, ih, toNat_bump]
    omega

theorem faultsOf_eq (mask : ValveSet) (m : Vector Valve 64) :
    faultsOf mask m
      = ((List.finRange 64).filter fun (v : Fin 64) => mask.getLsbD v && decide (m[v].descriptor ≠ .retired)).length := by
  rw [faultsOf]
  refine congrArg List.length (List.filter_congr fun v _ => ?_)
  rw [isFaulted, isFlaggedCovered, descAt_fin, ← Bool.and_or_distrib_left]
  cases m[v].descriptor <;> rfl

/-! #### The map after a mask -/

/-- A valve of two maps differs by its descriptor alone, which is not ACTIVE in the second. -/
def TakenOut (m n : Vector Valve 64) (v : Fin 64) : Prop := ∃ d, d ≠ .active ∧ n[v] = { m[v] with descriptor := d }

theorem TakenOut.descriptor_ne {m n : Vector Valve 64} {v : Fin 64} (h : TakenOut m n v) : n[v].descriptor ≠ .active := by
  obtain ⟨d, hd, hv⟩ := h
  rw [hv]
  exact hd

theorem set_getElem (m : Vector Valve 64) (v u : Fin 64) (x : Valve) : (m.set v x)[u] = if v = u then x else m[u] := by
  rw [Fin.getElem_fin, Vector.getElem_set]
  exact if_congr Fin.ext_iff.symm rfl rfl

theorem autoCoverOne_getElem_ne (a : Vector Valve 64 × Nat) {v u : Fin 64} (h : u ≠ v) : (autoCoverOne a v).1[u] = a.1[u] := by
  obtain ⟨-, h'⟩ | ⟨-, -, h'⟩ | ⟨-, -, h'⟩ := autoCoverOne_cases a v
  · rw [h', set_getElem, if_neg h.symm]
  · rw [h', set_getElem, if_neg h.symm]
  · rw [h']

theorem autoCoverOne_takenOut {m : Vector Valve 64} (a : Vector Valve 64 × Nat) (v : Fin 64) {u : Fin 64} (h : TakenOut m a.1 u) :
    TakenOut m (autoCoverOne a v).1 u := by
  by_cases huv : u = v
  · subst huv
    obtain ⟨d, hd, hu⟩ := h
    obtain ⟨-, h'⟩ | ⟨-, -, h'⟩ | ⟨-, -, h'⟩ := autoCoverOne_cases a u
    · exact ⟨.coveredRight, nofun, by rw [h', set_getElem, if_pos rfl, hu]⟩
    · exact ⟨.coveredLeft, nofun, by rw [h', set_getElem, if_pos rfl, hu]⟩
    · exact ⟨d, hd, by rw [h', hu]⟩
  · obtain ⟨d, hd, hu⟩ := h
    exact ⟨d, hd, (autoCoverOne_getElem_ne a huv).trans hu⟩

theorem foldl_autoCoverOne_getElem {vs : List (Fin 64)} {u : Fin 64} (h : u ∉ vs) (a : Vector Valve 64 × Nat) :
    (vs.foldl autoCoverOne a).1[u] = a.1[u] := by
  induction vs generalizing a with
  | nil => rfl
  | cons v vs ih =>
    rw [List.mem_cons, not_or] at h
    exact (ih h.2 _).trans (autoCoverOne_getElem_ne a h.1)

theorem foldl_autoCoverOne_takenOut {m : Vector Valve 64} {u : Fin 64} (vs : List (Fin 64)) (a : Vector Valve 64 × Nat)
    (h : TakenOut m a.1 u) : TakenOut m (vs.foldl autoCoverOne a).1 u := by
  induction vs generalizing a with
  | nil => exact h
  | cons v vs ih => exact ih _ (autoCoverOne_takenOut a v h)

/-- The map a fault mask leaves (R174, R175). -/
def maskedMap (auto : Bool) (mask : ValveSet) (m : Vector Valve 64) : Vector Valve 64 :=
  (autoCovered auto (outOfService mask m) (retiredMap mask m)).1

theorem maskedMap_of_notOut {auto : Bool} {mask : ValveSet} {m : Vector Valve 64} {v : Fin 64} (h : isOut mask m v = false) :
    (maskedMap auto mask m)[v] = m[v] := by
  have hretired : (retiredMap mask m)[v] = m[v] := by rw [retiredMap_getElem, if_neg (by simp [h])]
  have hnot : v ∉ outOfService mask m := by simp [mem_outOfService, h]
  unfold maskedMap autoCovered
  split
  · exact (foldl_autoCoverOne_getElem hnot _).trans hretired
  · exact hretired

theorem retiredMap_of_out {mask : ValveSet} {m : Vector Valve 64} {v : Fin 64} (h : isOut mask m v = true) :
    (retiredMap mask m)[v] = { m[v] with descriptor := .retired } := by
  rw [retiredMap_getElem, if_pos h]

theorem maskedMap_takenOut {auto : Bool} {mask : ValveSet} {m : Vector Valve 64} {v : Fin 64} (h : isOut mask m v = true) :
    TakenOut m (maskedMap auto mask m) v := by
  have hretired : TakenOut m (retiredMap mask m) v := ⟨.retired, nofun, retiredMap_of_out h⟩
  unfold maskedMap autoCovered
  split
  · exact foldl_autoCoverOne_takenOut _ _ hretired
  · exact hretired

theorem maskedMap_retired {mask : ValveSet} {m : Vector Valve 64} {v : Fin 64} (h : isOut mask m v = true) :
    (maskedMap false mask m)[v].descriptor = .retired := by
  rw [maskedMap, autoCovered, if_neg Bool.false_ne_true, retiredMap_of_out h]

/-- R174 spelled out: flagged and ACTIVE, or covered by a valve that is. -/
theorem isOut_iff (mask : ValveSet) (m : Vector Valve 64) (v : Fin 64) :
    isOut mask m v = true
      ↔ mask.getLsbD v = true ∧ m[v].descriptor = .active
        ∨ ∃ u : Fin 64, mask.getLsbD u = true ∧ m[u].descriptor = .active
          ∧ (m[v].descriptor = .coveredLeft ∧ u.val + 1 = v.val ∨ m[v].descriptor = .coveredRight ∧ u.val = v.val + 1) := by
  rw [isOut, Bool.or_eq_true, isFaulted_iff, isReleased_iff, descAt_fin, Option.some.injEq]
  refine or_congr_right ⟨?_, ?_⟩
  · rintro ⟨u, hcover, hfault⟩
    obtain ⟨hmask, hactive⟩ := isFaulted_iff.1 hfault
    obtain ⟨hlt, hu⟩ := descAt_eq_some.1 hactive
    refine ⟨⟨u, hlt⟩, hmask, hu, ?_⟩
    rw [coverOf_eq_some, descAt_fin, Option.some.injEq, Option.some.injEq] at hcover
    obtain ⟨hleft, rfl⟩ | ⟨hright, rfl⟩ := hcover
    · refine .inl ⟨hleft, ?_⟩
      by_cases hzero : v.val = 0
      · rw [show v.val - 1 = v.val by omega, descAt_fin, Option.some.injEq, hleft] at hactive
        exact nomatch hactive
      · dsimp only
        omega
    · exact .inr ⟨hright, rfl⟩
  · rintro ⟨u, hmask, hactive, hcover⟩
    refine ⟨u.val, ?_, isFaulted_iff.2 ⟨hmask, by rw [descAt_fin, hactive]⟩⟩
    rw [coverOf_eq_some, descAt_fin, Option.some.injEq, Option.some.injEq]
    exact hcover.imp (fun h => ⟨h.1, by omega⟩) (fun h => ⟨h.1, h.2.symm⟩)

/-! #### One valve out of service alone (R175) -/

theorem outOfService_of_alone {mask : ValveSet} {m : Vector Valve 64} {v : Fin 64}
    (h : ∀ u : Fin 64, isOut mask m u = true ↔ u = v) : outOfService mask m = [v] := by
  have hfilter : outOfService mask m = (List.finRange 64).filter fun u => u == v :=
    List.filter_congr fun u _ => Bool.eq_iff_iff.2 ((h u).trans beq_iff_eq.symm)
  rw [hfilter, List.filter_beq, List.count_eq_one_of_mem (List.nodup_finRange 64) (List.mem_finRange v)]
  rfl

/-- A valve alone out of service was ACTIVE: a released one brings its cover with it. -/
theorem active_of_alone {mask : ValveSet} {m : Vector Valve 64} {v : Fin 64}
    (h : ∀ u : Fin 64, isOut mask m u = true ↔ u = v) : m[v].descriptor = .active := by
  obtain ⟨-, hactive⟩ | ⟨u, hmask, hactive, hcover⟩ := (isOut_iff mask m v).1 ((h v).2 rfl)
  · exact hactive
  · rw [← (h u).1 ((isOut_iff mask m u).2 (.inl ⟨hmask, hactive⟩))]
    exact hactive

theorem descAt_retiredMap_ne {mask : ValveSet} {m : Vector Valve 64} {v : Fin 64}
    (h : ∀ u : Fin 64, isOut mask m u = true ↔ u = v) {u : Nat} (hu : u ≠ v.val) :
    descAt (retiredMap mask m) u = descAt m u := by
  rw [descAt_retiredMap, if_neg]
  rintro ⟨hlt, hout⟩
  exact hu (congrArg Fin.val ((h ⟨u, hlt⟩).1 hout))

theorem coverTableSize_retiredMap {mask : ValveSet} {m : Vector Valve 64} {v : Fin 64}
    (h : ∀ u : Fin 64, isOut mask m u = true ↔ u = v) : coverTableSize (retiredMap mask m) = coverTableSize m := by
  refine congrArg List.length (List.filter_congr fun u _ => ?_)
  rw [retiredMap_getElem]
  split
  · rename_i hout
    rw [(h u).1 hout, active_of_alone h]
    rfl
  · rfl

theorem descAt_iff_exists {m : Vector Valve 64} {u : Nat} {d : Descriptor} :
    descAt m u = some d ↔ ∃ w : Fin 64, w.val = u ∧ m[w].descriptor = d := by
  rw [descAt_eq_some]
  exact ⟨fun ⟨hlt, hu⟩ => ⟨⟨u, hlt⟩, rfl, hu⟩, fun ⟨w, hw, hd⟩ => hw ▸ ⟨w.isLt, hd⟩⟩

theorem rightQualifies_of_alone {mask : ValveSet} {m : Vector Valve 64} {v : Fin 64}
    (h : ∀ u : Fin 64, isOut mask m u = true ↔ u = v) :
    rightQualifies (retiredMap mask m) v = true
      ↔ (∃ u : Fin 64, u.val = v.val + 1 ∧ m[u].descriptor = .active)
        ∧ (∀ u : Fin 64, u.val = v.val + 2 → m[u].descriptor ≠ .coveredLeft) ∧ coverTableSize m < 8 := by
  rw [rightQualifies_iff, descAt_retiredMap_ne h (by omega), descAt_retiredMap_ne h (by omega), coverTableSize_retiredMap h,
    descAt_iff_exists, ne_eq, descAt_iff_exists]
  simp only [not_exists, not_and]

theorem leftQualifies_of_alone {mask : ValveSet} {m : Vector Valve 64} {v : Fin 64}
    (h : ∀ u : Fin 64, isOut mask m u = true ↔ u = v) :
    leftQualifies (retiredMap mask m) v = true
      ↔ (∃ u : Fin 64, u.val + 1 = v.val ∧ m[u].descriptor = .active)
        ∧ (∀ u : Fin 64, u.val + 2 = v.val → m[u].descriptor ≠ .coveredRight) ∧ coverTableSize m < 8 := by
  rw [leftQualifies_iff, coverTableSize_retiredMap h]
  constructor
  · rintro ⟨hpos, hactive, hfree, hroom⟩
    rw [descAt_retiredMap_ne h (by omega), descAt_iff_exists] at hactive
    obtain ⟨u, hu, hactive⟩ := hactive
    refine ⟨⟨u, by omega, hactive⟩, fun w hw hcovered => hfree ⟨by omega, ?_⟩, hroom⟩
    rw [descAt_retiredMap_ne h (by omega), descAt_iff_exists]
    exact ⟨w, by omega, hcovered⟩
  · rintro ⟨⟨u, hu, hactive⟩, hfree, hroom⟩
    refine ⟨by omega, ?_, ?_, hroom⟩
    · rw [descAt_retiredMap_ne h (by omega), descAt_iff_exists]
      exact ⟨u, by omega, hactive⟩
    · rintro ⟨htwo, hcovered⟩
      rw [descAt_retiredMap_ne h (by omega), descAt_iff_exists] at hcovered
      obtain ⟨w, hw, hcovered⟩ := hcovered
      exact hfree w (by omega) hcovered

/-- The right neighbour first, then the left, else the valve stays RETIRED (R175). -/
theorem autoCovered_of_alone {mask : ValveSet} {m : Vector Valve 64} {v : Fin 64}
    (h : ∀ u : Fin 64, isOut mask m u = true ↔ u = v) {right left : Prop}
    (hright : right
      = ((∃ u : Fin 64, u.val = v.val + 1 ∧ m[u].descriptor = .active)
        ∧ (∀ u : Fin 64, u.val = v.val + 2 → m[u].descriptor ≠ .coveredLeft) ∧ coverTableSize m < 8))
    (hleft : left
      = ((∃ u : Fin 64, u.val + 1 = v.val ∧ m[u].descriptor = .active)
        ∧ (∀ u : Fin 64, u.val + 2 = v.val → m[u].descriptor ≠ .coveredRight) ∧ coverTableSize m < 8)) :
    (right → (maskedMap true mask m)[v].descriptor = .coveredRight)
      ∧ (¬ right → left → (maskedMap true mask m)[v].descriptor = .coveredLeft)
      ∧ (¬ right → ¬ left → (maskedMap true mask m)[v].descriptor = .retired)
      ∧ ((right ∨ left) → (autoCovered true (outOfService mask m) (retiredMap mask m)).2 = 1) := by
  have hr := hright ▸ rightQualifies_of_alone h
  have hl := hleft ▸ leftQualifies_of_alone h
  have hone : autoCovered true (outOfService mask m) (retiredMap mask m) = autoCoverOne (retiredMap mask m, 0) v := by
    rw [autoCovered, if_pos rfl, outOfService_of_alone h]
    rfl
  rw [maskedMap, hone, ← hr, ← hl]
  obtain ⟨hyes, h'⟩ | ⟨hno, hyes, h'⟩ | ⟨hno, hno', h'⟩ := autoCoverOne_cases (retiredMap mask m, 0) v
  · rw [h', set_getElem, if_pos rfl]
    exact ⟨fun _ => rfl, fun hn => absurd hyes hn, fun hn => absurd hyes hn, fun _ => rfl⟩
  · rw [h', set_getElem, if_pos rfl]
    exact ⟨fun hy => absurd (hno.symm.trans hy) Bool.false_ne_true, fun _ _ => rfl, fun _ hn => absurd hyes hn, fun _ => rfl⟩
  · rw [h']
    refine ⟨fun hy => absurd (hno.symm.trans hy) Bool.false_ne_true, fun _ hy => absurd (hno'.symm.trans hy) Bool.false_ne_true,
      fun _ _ => ?_, fun hy => ?_⟩
    · rw [retiredMap_of_out ((h v).2 rfl)]
    · exact hy.elim (fun hy => absurd (hno.symm.trans hy) Bool.false_ne_true)
        (fun hy => absurd (hno'.symm.trans hy) Bool.false_ne_true)

/-! #### The end of a transfer -/

theorem exec_transferComplete {s : State} {returned : List Byte} {mask : ValveSet} (h : s.bar.transfer.isSome = true)
    (hmask : ∀ v : Fin 64, mask.getLsbD v = bitAt returned (1 + v.val / 8) (v.val % 8)) :
    exec (.transferComplete returned) s = .next (nextTransfer (syncBar (takeMask mask s))) := by
  obtain ⟨sent, hsent⟩ := Option.isSome_iff_exists.1 h
  change execTransferComplete returned s = _
  rw [execTransferComplete, hsent, faultMaskOf_eq hmask]

theorem nextTransfer_eq (s : State) :
    nextTransfer s
      = { s with
          bar.transfer := if s.bar.again then some (transferBytes s.bar.drive s.bar.pilot) else none
          bar.again := false } := by
  unfold nextTransfer
  cases h : s.bar.again
  · rw [if_neg Bool.false_ne_true, if_neg Bool.false_ne_true, ← h]
  · rw [if_pos rfl, if_pos rfl]

/-- What a mask does, the flag of its faults aside (R165, R174, R175). -/
theorem takeMask_eq (mask : ValveSet) (s : State) :
    ∃ flags, takeMask mask s
        = { s with
            valves.valve := maskedMap (prof s).autoCover mask s.valves.valve
            valves.valveFaults := bumpBy (faultsOf mask s.valves.valve) s.valves.valveFaults
            valves.autoCovers :=
              bumpBy (autoCovered (prof s).autoCover (outOfService mask s.valves.valve) (retiredMap mask s.valves.valve)).2
                s.valves.autoCovers
            sched.entries :=
              s.sched.entries.map
                (cutDrive (leftActive s.valves.valve (maskedMap (prof s).autoCover mask s.valves.valve)))
            port.flags := flags }
      ∧ (faultsOf mask s.valves.valve = 0 → flags = s.port.flags)
      ∧ (faultsOf mask s.valves.valve ≠ 0 → flags.getLsbD 3 = true) := by
  unfold takeMask
  dsimp only
  split
  · rename_i hnone
    exact ⟨s.port.flags, rfl, fun _ => rfl, fun hsome => absurd hnone hsome⟩
  · rename_i hsome
    exact ⟨_, rfl, fun hnone => absurd hnone hsome, fun _ => raiseFlag_getLsbD_flagBit .valveFault s⟩

theorem isOut_zero (m : Vector Valve 64) (v : Nat) : isOut 0 m v = false := by
  have hnone (u : Nat) : isFaulted 0 m u = false := by simp [isFaulted]
  rw [isOut, hnone, Bool.false_or, isReleased]
  split
  · rfl
  · exact hnone _

theorem takeMask_zero (s : State) : takeMask 0 s = s := by
  have hmap : maskedMap (prof s).autoCover 0 s.valves.valve = s.valves.valve :=
    Vector.ext fun v hv => maskedMap_of_notOut (v := ⟨v, hv⟩) (isOut_zero _ _)
  have hnobody : outOfService 0 s.valves.valve = [] := List.filter_eq_nil_iff.2 fun v _ => by
    have hv := isOut_zero s.valves.valve v
    rw [isOut] at hv
    rw [hv]
    exact Bool.false_ne_true
  have hcovers : (autoCovered (prof s).autoCover (outOfService 0 s.valves.valve) (retiredMap 0 s.valves.valve)).2 = 0 := by
    rw [hnobody, autoCovered]
    split <;> rfl
  have hfaults : faultsOf 0 s.valves.valve = 0 := by simp [faultsOf, isFaulted, isFlaggedCovered]
  have hleft : leftActive s.valves.valve s.valves.valve = 0 := by
    refine BitVec.eq_of_getLsbD_eq fun v hv => (Bool.eq_false_iff.2 fun hbit => ?_).trans BitVec.getLsbD_zero.symm
    obtain ⟨hactive, hnot⟩ := (getLsbD_leftActive (v := ⟨v, hv⟩)).1 hbit
    exact hnot hactive
  have hcut : cutDrive 0 = id := by
    funext e
    unfold cutDrive
    split
    · have hdrive : e.drive &&& ~~~(0 : ValveSet) = e.drive := by
        have hones : ~~~(0 : ValveSet) = BitVec.allOnes 64 := by decide
        rw [hones, BitVec.and_allOnes]
      rw [hdrive]
      rfl
    · rfl
  obtain ⟨flags, heq, hflags, -⟩ := takeMask_eq 0 s
  rw [heq, hmap, hfaults, hcovers, hleft, hcut, List.map_id, hflags hfaults]
  rfl

/-- Settles O43. -/
theorem faultedValvesAreRetired : Obligations.FaultedValvesAreRetired := by
  refine ⟨fun drive pilot sent hsent => ?_, fun s returned mask out htransfer hmask hout => ⟨fun hbar hzero => ?_, ?_⟩⟩
  · subst hsent
    exact ⟨transferBytes_length _ _, bitAt_transferBytes_zero _ _, bitAt_transferBytes_valve _ _⟩
  · subst hzero
    rw [exec_transferComplete htransfer hmask, takeMask_zero, syncBar_of_inStep hbar, nextTransfer_eq]
  · have hout' (v : Fin 64) : out v ↔ isOut mask s.valves.valve v = true := by rw [hout, isOut_iff]
    clear hout
    obtain ⟨flags, heq, -, hflag⟩ := takeMask_eq mask s
    refine ⟨_, exec_transferComplete htransfer hmask, ?_⟩
    have hdrive : (nextTransfer (syncBar (takeMask mask s))).bar.drive = driveOf (nextTransfer (syncBar (takeMask mask s))) := by
      rw [nextTransfer_eq]
      exact (syncBar_inStep _).1
    refine ⟨?_, ?_, ?_, hdrive, ?_⟩
    all_goals rw [nextTransfer_eq]
    all_goals simp only [syncBar_frame]
    all_goals rw [heq]
    all_goals dsimp only
    · rw [toNat_bumpBy, faultsOf_eq]
    · rintro ⟨v, hv, hne⟩
      refine hflag fun hnone => ?_
      rw [faultsOf_eq, List.length_eq_zero_iff, List.filter_eq_nil_iff] at hnone
      exact hnone v (List.mem_finRange v) (by simp only [hv, Bool.true_and]; exact decide_eq_true hne)
    · intro x hx hopen v hv hactive
      obtain ⟨o, -, rfl⟩ := List.mem_map.1 hx
      have hleft := getLsbD_leftActive.2 ⟨hactive,
        (maskedMap_takenOut (auto := (prof s).autoCover) ((isOut_iff mask _ v).2 (.inl ⟨hv, hactive⟩))).descriptor_ne⟩
      have ho : o.state = .opened := ((cutDrive_from _ o).opened hopen).1
      rw [cutDrive, if_pos ho]
      simp [hleft]
    · refine ⟨rfl, rfl, rfl, fun v hv => maskedMap_of_notOut (Bool.eq_false_iff.2 fun h => hv ((hout' v).2 h)),
        fun v hv => maskedMap_takenOut ((hout' v).1 hv), fun hauto v hv => ?_, fun v right left hauto halone hright hleft => ?_⟩
      · rw [hauto]
        exact maskedMap_retired ((hout' v).1 hv)
      · rw [hauto]
        obtain ⟨h1, h2, h3, h4⟩ := autoCovered_of_alone (fun u => (hout' u).symm.trans (halone u)) hright hleft
        refine ⟨h1, h2, h3, fun hsome => ?_⟩
        rw [h4 hsome]
        rfl

end Sys2Proof.Machine
end

/-! ### The judgement of a command, the reports, and the load (R189 to R193, R196 to R203) -/

section
namespace Sys2Proof.Machine

set_option Elab.async false

/-! #### A command taken and judged (R189, R190) -/

theorem taken_of_free (run : State → State) {s : State} (hpend : s.port.resetPending = false)
    (hheld : s.port.resetHeld = false) : taken run s = run s := by
  rw [taken, hheld, if_neg Bool.false_ne_true, transaction, hpend, if_neg Bool.false_ne_true]

theorem judge_of_ok {accepted lengthOk : Bool} (run : State → State) (s : State) (ha : accepted = true)
    (hl : lengthOk = true) : judge accepted lengthOk run s = run s := by
  rw [judge, ha, hl]
  rfl

theorem judge_of_refused {accepted : Bool} (lengthOk : Bool) (run : State → State) (s : State) (ha : accepted = false) :
    judge accepted lengthOk run s = { s with port.response := [1, 0, 0] } := by
  rw [judge, ha]
  rfl

theorem judge_of_badLength {accepted lengthOk : Bool} (run : State → State) (s : State) (ha : accepted = true)
    (hl : lengthOk = false) : judge accepted lengthOk run s = { s with port.response := [2, 0, 1, 0] } := by
  rw [judge, ha, hl]
  rfl

theorem doneFrame_of_length {data : List Byte} {n : Nat} (h : data.length = n) :
    doneFrame data = 0 :: byteOf (n / 256) :: byteOf n :: data := by
  rw [doneFrame, frameOf, h]
  rfl

theorem carryOut_of_length {effect : State → State} {data : State → List Byte} {s : State} {n : Nat}
    (h : (data (effect s)).length = n) :
    carryOut effect data s
      = { effect s with port.response := 0 :: byteOf (n / 256) :: byteOf n :: data (effect s) } := by
  rw [carryOut, doneFrame_of_length h]
  rfl

theorem carryOut_noData (effect : State → State) (s : State) :
    carryOut effect noData s = { effect s with port.response := [0, 0, 0] } :=
  carryOut_of_length (n := 0) rfl

theorem refusedArgumentFrame_eq (index : Nat) : refusedArgumentFrame index = [2, 0, 1, byteOf index] := by
  rw [refusedArgumentFrame, frameOf, List.length_singleton]
  rfl

/-! #### The lengths of the reports (R201 to R203) -/

theorem linkBytes_length (l : LinkState) : (linkBytes l).length = 2 := by
  rcases l with _ | _ | _ | (_ | _) <;> rfl

theorem statusBlock_length (s : State) : (statusBlock s).length = 148 := by
  simp [statusBlock, statusHead, statusTracks, statusLink, statusAccept, statusMembers, statusClaim, statusSched, statusTail,
    tallyBytes, bytes2, bytes4, linkBytes_length]

theorem peerBytes_length (p : Peer) : (peerBytes p).length = 20 := by
  unfold peerBytes contentBytes
  split <;> rfl

theorem peersBlock_length (s : State) : (peersBlock s).length = 320 := by
  simp [peersBlock, List.length_flatMap, peerBytes_length]

theorem valveBytes_length (m : Vector Valve 64) (v : Fin 64) : (valveBytes m v).length = 6 := rfl

theorem valveBlock_length (s : State) : (valveBlock s).length = 397 := by
  simp [valveBlock, List.length_flatMap, valveBytes_length, tallyBytes, bytes2]

/-- Settles O53. -/
theorem readCommandsAnswerWithTheirBlock : Obligations.ReadCommandsAnswerWithTheirBlock := by
  intro s hpend hheld
  have hread (block : State → List Byte) {n : Nat} (hlen : (block s).length = n) :
      taken (judge true true (carryOut id block)) s
        = { s with port.response := 0 :: byteOf (n / 256) :: byteOf n :: block s } :=
    (taken_of_free _ hpend hheld).trans (carryOut_of_length hlen)
  exact ⟨congrArg _ (hread _ (statusBlock_length s)), statusBlock_length s, congrArg _ (hread _ (peersBlock_length s)),
    peersBlock_length s, congrArg _ (hread _ (valveBlock_length s)), valveBlock_length s⟩

/-! #### Outcomes and events (R196 to R198) -/

theorem maskOf_pair (hi lo : Byte) : maskOf [hi, lo] = hi ++ lo := by
  refine BitVec.eq_of_toNat_eq ?_
  have hhi := hi.isLt
  have hlo := lo.isLt
  rw [BitVec.toNat_append, ← Nat.shiftLeft_add_eq_or_of_lt hlo, maskOf, BitVec.toNat_ofNat]
  change (hi.toNat * 256 + lo.toNat) % 2 ^ 16 = _
  rw [Nat.shiftLeft_eq]
  omega

theorem append_bytes2 (w : BitVec 16) : byteOf (w.toNat / 256) ++ byteOf w.toNat = w := by
  have hlt := w.isLt
  refine BitVec.eq_of_toNat_eq ?_
  rw [byteOf, byteOf, BitVec.toNat_append, BitVec.toNat_ofNat, BitVec.toNat_ofNat,
    ← Nat.shiftLeft_add_eq_or_of_lt (Nat.mod_lt _ (by decide)), Nat.shiftLeft_eq]
  omega

theorem getLsbD_eventFlags_zero (s : State) : (eventFlags s).getLsbD 0 = outcomesReady s := by
  rw [eventFlags]
  cases outcomesReady s <;> simp

/-- No flag stands above bit 10 (R198). -/
theorem lt_of_getLsbD_eventFlags {s : State} {k : Nat} (h : (eventFlags s).getLsbD k = true) : k < 11 := by
  by_contra hge
  have hfield : flagField.getLsbD k = false := by
    by_cases hk : k < 16
    · interval_cases k <;> rfl
    · exact BitVec.getLsbD_of_ge _ _ (by omega)
  have hone : (1#16).getLsbD k = false := by
    rw [BitVec.getLsbD_one]
    simp; omega
  rw [eventFlags] at h
  cases hready : outcomesReady s <;> simp [hready, hfield, hone] at h

theorem attention_iff (s : State) :
    attention s = true ↔ ∃ k : Fin 11, (eventFlags s).getLsbD k = true ∧ s.port.enableMask.getLsbD k = true := by
  rw [attention, decide_eq_true_eq]
  constructor
  · intro hne
    by_contra hnone
    refine hne (BitVec.eq_of_getLsbD_eq fun k _ => (Bool.eq_false_iff.2 fun hbit => hnone ?_).trans BitVec.getLsbD_zero.symm)
    rw [BitVec.getLsbD_and, Bool.and_eq_true] at hbit
    exact ⟨⟨k, lt_of_getLsbD_eventFlags hbit.1⟩, hbit⟩
  · rintro ⟨k, hflag, hmask⟩ hzero
    have hbit := congrArg (fun w : BitVec 16 => w.getLsbD k) hzero
    simp [hflag, hmask] at hbit

theorem getLsbD_setMask {mask : BitVec 16} {k : Nat} (hk : k < 11) : (mask &&& flagField).getLsbD k = mask.getLsbD k := by
  have hfield : flagField.getLsbD k = true := by interval_cases k <;> rfl
  rw [BitVec.getLsbD_and, hfield, Bool.and_true]

theorem recordBytes_length (r : OutcomeRecord) : (recordBytes r).length = 13 := by
  have hresult : (resultBytes r.result).length = 2 := by cases r.result <;> rfl
  simp [recordBytes, idBytes, bytes2, bytes4, hresult]

theorem outcomesBlock_length (s : State) : (outcomesBlock s).length = 2 + 13 * min 4 s.port.outcomes.length := by
  simp [outcomesBlock, List.length_flatMap, recordBytes_length]
  omega

/-- Settles O54. -/
theorem outcomeAndEventCommandsAnswer : Obligations.OutcomeAndEventCommandsAnswer := by
  intro s hi lo hpend hheld
  refine ⟨?_, ?_, ?_, ?_⟩
  · obtain ⟨w, hw⟩ : ∃ w, w = eventFlags { s with port.flags := s.port.flags &&& ~~~ (hi ++ lo) } := ⟨_, rfl⟩
    have hexec : exec (.clearEvents [hi, lo]) s
        = .next { s with
            port.flags := s.port.flags &&& ~~~ (hi ++ lo)
            port.response := [0, 0, 2, byteOf (w.toNat / 256), byteOf w.toNat] } := by
      refine congrArg _ ((taken_of_free _ hpend hheld).trans ((judge_of_ok _ _ rfl (decide_eq_true rfl)).trans
        ((carryOut_of_length (n := 2) rfl).trans ?_)))
      rw [hw, ← maskOf_pair]
      rfl
    exact ⟨_, _, _, hexec, rfl, (append_bytes2 w).trans hw, getLsbD_eventFlags_zero _⟩
  · have hexec : exec (.setEventMask [hi, lo]) s
        = .next { s with port.enableMask := (hi ++ lo) &&& flagField, port.response := [0, 0, 0] } := by
      refine congrArg _ ((taken_of_free _ hpend hheld).trans ((judge_of_ok _ _ rfl (decide_eq_true rfl)).trans
        ((carryOut_noData _ s).trans ?_)))
      rw [← maskOf_pair]
      rfl
    refine ⟨_, hexec, rfl, fun k => getLsbD_setMask k.isLt, (attention_iff _).trans (exists_congr fun k => and_congr_right' ?_)⟩
    exact Bool.eq_iff_iff.1 (getLsbD_setMask k.isLt)
  · have hsmall : (2 + 13 * min 4 s.port.outcomes.length) / 256 = 0 := by omega
    refine congrArg _ ((taken_of_free _ hpend hheld).trans ((carryOut_of_length (outcomesBlock_length s)).trans ?_))
    rw [hsmall]
    rfl
  · have hexec : exec (.removeOutcomes [lo]) s = .next (removeAnswered [lo] s) :=
      congrArg _ ((taken_of_free (judge true (decide ([lo].length = 1)) (removeAnswered [lo])) hpend hheld).trans
        (judge_of_ok _ s rfl (decide_eq_true rfl)))
    have hanswer : removeAnswered [lo] s
        = { removeOldest (removable [lo] s) s with
            port.response :=
              [0, 0, 2, byteOf (removable [lo] s), byteOf (s.port.outcomes.drop (removable [lo] s)).length] } :=
      carryOut_of_length (effect := removeOldest (removable [lo] s))
        (data := fun b => [byteOf (removable [lo] s), byteOf b.port.outcomes.length]) (n := 2) rfl
    rw [hexec, hanswer, List.length_drop]
    rfl

/-! #### The load of a profile (R192, R193) -/

theorem acceptsLoad_iff (s : State) :
    acceptsLoad s = true ↔ s.port.station = .unconfigured ∨ s.port.station = .ready ∨ s.port.station = .halted := by
  unfold acceptsLoad
  cases s.port.station <;> simp

theorem profileOffence_of_first {a : List Byte} {before after : List (Nat × Bool)} {index : Nat}
    (h : profileChecks a = before ++ (index, false) :: after) (hb : ∀ c ∈ before, c.2 = true) :
    profileOffence a = some index := by
  have hnone : before.find? (fun c => !c.2) = none := List.find?_eq_none.2 fun c hc => by simp [hb c hc]
  rw [profileOffence, h, List.find?_append, hnone]
  rfl

theorem profileOffence_of_none {a : List Byte} (h : ∀ c ∈ profileChecks a, c.2 = true) : profileOffence a = none := by
  have hnone : (profileChecks a).find? (fun c => !c.2) = none := List.find?_eq_none.2 fun c hc => by simp [h c hc]
  rw [profileOffence, hnone]
  rfl

/-- Settles O49. -/
theorem loadedProfileIsCheckedAndHeldWhole : Obligations.LoadedProfileIsCheckedAndHeldWhole := by
  intro s arg hpend hheld
  have hexec : exec (.loadProfile arg) s
      = .next (judge (acceptsLoad s) (decide (arg.length = 278)) (loadChecked arg) s) :=
    congrArg _ (taken_of_free (fun a => judge (acceptsLoad a) (decide (arg.length = 278)) (loadChecked arg) a) hpend hheld)
  rw [hexec]
  refine ⟨fun hstation => congrArg _ (judge_of_refused _ _ s ?_), fun hstation => ?_⟩
  · rw [acceptsLoad]
    rcases hstation with h | h <;> rw [h]
  · have haccept := (acceptsLoad_iff s).2 hstation
    refine ⟨fun hlen => ?_, fun before index after hlen hchecks hbefore => ?_, fun q hlen hchecks hq => ?_⟩
    · exact congrArg _ (judge_of_badLength _ s haccept (decide_eq_false hlen))
    · refine congrArg _ ((judge_of_ok _ s haccept (decide_eq_true hlen)).trans ?_)
      rw [loadChecked, profileOffence_of_first hchecks hbefore, ← refusedArgumentFrame_eq]
      rfl
    · refine congrArg _ ((judge_of_ok _ s haccept (decide_eq_true hlen)).trans ?_)
      rw [loadChecked, profileOffence_of_none hchecks, hq]
      exact carryOut_noData _ s

/-! #### The bytes of a transaction, and the order of its judgement (R189 to R191) -/

theorem byteOf_toNat_of_lt {n : Nat} (h : n < 256) : (byteOf n).toNat = n := by
  rw [byteOf, BitVec.toNat_ofNat, Nat.mod_eq_of_lt h]

theorem transactionCommand_frame (code : Byte) (arg filler : List Byte) (h : arg.length < 65536) :
    transactionCommand (code :: byteOf (arg.length / 256) :: byteOf arg.length :: (arg ++ filler)) = portCommand code arg := by
  have hdeclared : declaredLength (code :: byteOf (arg.length / 256) :: byteOf arg.length :: (arg ++ filler)) = arg.length := by
    change (byteOf (arg.length / 256)).toNat * 256 + (byteOf arg.length).toNat = arg.length
    rw [byteOf_toNat_of_lt (by omega), byteOf, BitVec.toNat_ofNat]
    omega
  have hcomplete : frameComplete (code :: byteOf (arg.length / 256) :: byteOf arg.length :: (arg ++ filler)) = true := by
    rw [frameComplete, hdeclared]
    simp
    omega
  rw [transactionCommand, if_pos hcomplete, hdeclared]
  change portCommand code ((arg ++ filler).take arg.length) = _
  rw [List.take_left]

theorem transactionCommand_abandoned {bytes : List Byte}
    (h : bytes.length < 3 ∨ bytes.length < 3 + (u8 bytes 1 * 256 + u8 bytes 2)) :
    transactionCommand bytes = .portTransactionAbandoned := by
  refine if_neg fun hcomplete => ?_
  have hlen : 3 ≤ bytes.length ∧ 3 + (u8 bytes 1 * 256 + u8 bytes 2) ≤ bytes.length := by
    simpa [frameComplete, declaredLength, u8] using hcomplete
  omega

theorem portCommand_of_unknown {code : Byte} (arg : List Byte) (h : code = 0 ∨ 13 < code.toNat) :
    portCommand code arg = .badCommandCode code arg := by
  unfold portCommand
  split
  all_goals first
    | rfl
    | (rename_i hcode
       rcases h with rfl | h
       · exact absurd hcode (by decide)
       · omega)

/-- The command is carried out in a transaction of its own (R189). -/
def TakenByPort (c : Instr) : Prop := ∃ run : State → State, ∀ s, exec c s = .next (taken run s)

theorem exec_of_held {c : Instr} {s : State} (h : TakenByPort c) (hheld : s.port.resetHeld = true) : exec c s = .next s := by
  obtain ⟨run, hrun⟩ := h
  rw [hrun, taken, if_pos hheld]

theorem exec_of_pending {c : Instr} {s : State} (h : TakenByPort c) (hpend : s.port.resetPending = true)
    (hheld : s.port.resetHeld = false) : exec c s = exec c (stationReset s) := by
  obtain ⟨run, hrun⟩ := h
  rw [hrun, hrun, taken_of_free run (s := stationReset s) rfl hheld, taken, hheld, if_neg Bool.false_ne_true, transaction,
    if_pos hpend]

theorem portCommand_takenByPort (c : Instr) (arg : List Byte)
    (h : c ∈ [Instr.loadProfile arg, .start arg, .halt arg, .resumeLink arg, .editValveMap arg, .readValveMap arg,
      .readStatus arg, .readPeers arg, .readOutcomes arg, .removeOutcomes arg, .clearEvents arg, .setEventMask arg,
      .reset arg]) : TakenByPort c := by
  simp only [List.mem_cons, List.not_mem_nil, or_false] at h
  rcases h with rfl | rfl | rfl | rfl | rfl | rfl | rfl | rfl | rfl | rfl | rfl | rfl | rfl <;> exact ⟨_, fun _ => rfl⟩

theorem exec_stationReset_command {s : State} (h : s.port.resetPending = true) :
    exec (.stationReset .command) s = .next (stationReset s) :=
  if_pos h

theorem exec_badCommandCode {code : Byte} {arg : List Byte} {s : State} (h : code = 0 ∨ 13 < code.toNat) :
    exec (.badCommandCode code arg) s = .next (taken (respond (refusedArgumentFrame 0)) s) :=
  if_pos (by simpa using h)

theorem isSilent_iff (s : State) : isSilent s = true ↔ ∃ cause, s.link.state = .silent cause := by
  unfold isSilent
  cases s.link.state <;> simp

/-- Settles O55. -/
theorem portTransactionsAreJudgedInOrder : Obligations.PortTransactionsAreJudgedInOrder := by
  intro s code arg filler
  refine ⟨fun hlen => ⟨fun c hc => ⟨?_, ?_⟩, fun hcode => ?_⟩, transactionCommand_abandoned, fun hheld => ⟨?_, ?_⟩, fun i => ?_,
    fun hpend hheld => ?_⟩
  · rw [transactionCommand_frame _ _ _ hlen]
    simp only [List.mem_cons, List.not_mem_nil, or_false] at hc
    rcases hc with rfl | rfl | rfl | rfl | rfl | rfl | rfl | rfl | rfl | rfl | rfl | rfl | rfl <;> rfl
  · have htaken : TakenByPort c.2 := portCommand_takenByPort c.2 arg (List.mem_map_of_mem (f := Prod.snd) hc)
    exact ⟨exec_of_held htaken, fun hpend hheld => ⟨_, exec_stationReset_command hpend, exec_of_pending htaken hpend hheld⟩⟩
  · rw [transactionCommand_frame _ _ _ hlen, portCommand_of_unknown arg hcode]
  · exact exec_of_held ⟨_, fun _ => rfl⟩ hheld
  · change execBadCommandCode code arg s = _
    unfold execBadCommandCode
    split
    · rw [taken, if_pos hheld]
    · rfl
  · rw [responseByte, List.getD_eq_getElem?_getD]
    split
    · rename_i hi
      rw [List.getElem?_eq_getElem hi]
      rfl
    · rename_i hi
      rw [List.getElem?_eq_none (by omega)]
      rfl
  · have hfree {c : Instr} {run : State → State} {t : State} (hc : exec c s = .next (taken run s)) (ht : run s = t) :
        exec c s = .next t := by rw [hc, taken_of_free run hpend hheld, ht]
    refine ⟨hfree rfl (carryOut_noData armReset s), fun hcode => hfree (exec_badCommandCode hcode) rfl, hfree rfl rfl,
      fun hready hhalted => hfree rfl (judge_of_refused _ _ s ?_), fun hrun => hfree rfl (judge_of_refused _ _ s ?_),
      fun hlink => hfree rfl (judge_of_refused _ _ s ?_), fun hstation => hfree rfl (judge_of_refused _ _ s ?_),
      fun hstation => hfree rfl (judge_of_refused _ _ s ?_), fun hne => ?_, fun hne => ?_, fun hne => ?_⟩
    · rw [acceptsStart]
      cases hst : s.port.station <;> simp_all
    · exact decide_eq_false hrun
    · rw [Bool.and_eq_false_iff, decide_eq_false_iff_not, ← Bool.not_eq_true, isSilent_iff]
      exact hlink.imp id fun h ⟨cause, hc⟩ => h cause hc
    · rw [acceptsLoad]
      rcases hstation with h | h <;> rw [h]
    · rw [acceptsEdit, hstation]
      rfl
    · have hempty : arg.isEmpty = false := by simpa using hne
      refine ⟨fun hstation => hfree rfl (judge_of_badLength _ s ?_ hempty),
        fun hstation => hfree rfl (judge_of_badLength _ s (decide_eq_true hstation) hempty),
        fun cause hstation hlink => hfree rfl (judge_of_badLength _ s ?_ hempty), hfree rfl (judge_of_badLength _ s rfl hempty),
        hfree rfl (judge_of_badLength _ s rfl hempty), hfree rfl (judge_of_badLength _ s rfl hempty),
        hfree rfl (judge_of_badLength _ s rfl hempty), hfree rfl (judge_of_badLength _ s rfl hempty)⟩
      · rw [acceptsStart]
        rcases hstation with h | h <;> rw [h]
      · rw [decide_eq_true hstation, (isSilent_iff s).2 ⟨cause, hlink⟩]
        rfl
    · exact hfree rfl (judge_of_badLength _ s rfl (decide_eq_false hne))
    · exact ⟨hfree rfl (judge_of_badLength _ s rfl (decide_eq_false hne)),
        hfree rfl (judge_of_badLength _ s rfl (decide_eq_false hne))⟩

end Sys2Proof.Machine
end

/-! ### START, RESUME LINK, HALT and the end of HALTING (R90 to R92, R147, R168, R191) -/

section
namespace Sys2Proof.Machine

set_option Elab.async false

theorem exec_port {c : Instr} {run : State → State} {s t : State} (hpend : s.port.resetPending = false)
    (hheld : s.port.resetHeld = false) (hc : exec c s = .next (taken run s)) (ht : run s = t) : exec c s = .next t := by
  rw [hc, taken_of_free run hpend hheld, ht]

/-! #### START (R191) -/

theorem expectedOf_empty : expectedOf (Vector.replicate 16 Peer.empty) = [] := by decide

theorem adoptedOf_empty (fallback : ClassSet) : adoptedOf fallback (Vector.replicate 16 Peer.empty) = fallback := by
  have hclasses (n : Fin 16) : barClasses (Vector.replicate 16 Peer.empty) n = 0 := by
    rw [barClasses, Fin.getElem_fin, Vector.getElem_replicate]
    rfl
  have hkept (l : List (Fin 16)) :
      l.foldl (fun (a : ClassSet) (n : Fin 16) => a &&& ~~~ (barClasses (Vector.replicate 16 Peer.empty) n)) fallback
        = fallback := by
    induction l with
    | nil => rfl
    | cons n ns ih =>
      have hall : fallback &&& ~~~ (0 : ClassSet) = fallback := by
        have hones : ~~~ (0 : ClassSet) = BitVec.allOnes 16 := by decide
        rw [hones, BitVec.and_allOnes]
      rw [List.foldl_cons, hclasses, hall, ih]
  exact hkept _

theorem listen_eq (s : State) :
    listen s
      = { s with
          link.state := .listening
          link.listeningTimer := some (s.clock + 20 * (prof s).heartbeatPeriod)
          link.consecutiveFailures := 0 } := by
  have htime : 2 * (prof s).heartbeatPeriod * Config.ticksPerMs = 20 * (prof s).heartbeatPeriod := by
    change 2 * (prof s).heartbeatPeriod * 10 = _
    omega
  rw [listen, htime]

theorem acceptsStart_iff (s : State) : acceptsStart s = true ↔ s.port.station = .ready ∨ s.port.station = .halted := by
  unfold acceptsStart
  cases s.port.station <;> simp

/-- The state START leaves, but for the bar and the answer, its derived sets computed (R191). -/
theorem startStation_members (s : State) :
    (startStation s).members
      = { s.members with
          peers := Vector.replicate 16 Peer.empty
          expected := []
          adopted := (prof s).fallback } := by
  rw [← expectedOf_empty, ← adoptedOf_empty (prof s).fallback]
  rfl

theorem startStation_belt (s : State) :
    (startStation s).belt
      = if s.port.station = .ready then
          { s.belt with
            windowList := Vector.replicate 4 0
            forward := 0
            reverse := 0
            speed := 0
            zeroRun := 0
            motion := .stopped
            reverseFree := true
            beganReversing := false
            windowTimer := some (s.clock + 160)
            nextStrobe := s.belt.count + BitVec.ofNat 32 (prof s).scanPitch }
        else { s.belt with nextStrobe := s.belt.count + BitVec.ofNat 32 (prof s).scanPitch } := by
  have hbelt : (startStation s).belt = startBelt (s.port.station = .ready) s.clock (prof s).scanPitch s.belt := by
    rw [startStation, listen_eq]
  rw [hbelt, startBelt]
  split
  · rename_i h
    rw [if_pos (of_decide_eq_true h)]
    rfl
  · rename_i h
    rw [if_neg (of_decide_eq_false (Bool.eq_false_iff.2 h))]
    rfl

/-- Settles O50. -/
theorem startRunsTheStation : Obligations.StartRunsTheStation := by
  intro s hpend hheld
  refine ⟨fun ⟨hready, hhalted⟩ => ?_, fun hstation => ?_, fun cause hrun hlink => ?_, fun hrefused => ?_⟩
  · refine exec_port hpend hheld rfl (judge_of_refused _ _ s (Bool.eq_false_iff.2 fun h => ?_))
    exact ((acceptsStart_iff s).1 h).elim hready hhalted
  · refine ⟨_, exec_port hpend hheld rfl
      ((judge_of_ok _ s ((acceptsStart_iff s).2 hstation) rfl).trans (carryOut_noData _ s)), ?_⟩
    simp only [syncBar_frame]
    refine ⟨?_, startStation_belt s, ?_, ?_, ?_, ?_, startStation_members s, ?_, ?_, ?_, ?_, ?_, ?_⟩
    all_goals rw [startStation, listen_eq]
    all_goals rfl
  · refine exec_port hpend hheld rfl ((judge_of_ok _ s ?_ rfl).trans ((carryOut_noData _ s).trans ?_))
    · rw [decide_eq_true hrun, (isSilent_iff s).2 ⟨cause, hlink⟩]
      rfl
    · rw [listen_eq]
  · refine exec_port hpend hheld rfl (judge_of_refused _ _ s ?_)
    rw [Bool.and_eq_false_iff, decide_eq_false_iff_not, ← Bool.not_eq_true, isSilent_iff]
    refine hrefused.imp id fun hlink => ?_
    rintro ⟨cause, hsilent⟩
    rw [hsilent] at hlink
    rcases hlink with h | h | h <;> exact nomatch h

/-! #### HALT (R147, R168) -/

theorem entryAt_eq_none {k : Nat} {s : State} (h : entryAt k s = none) : without k s.sched.entries = s.sched.entries := by
  rw [entryAt, List.find?_eq_none] at h
  exact List.filter_eq_self.2 fun e he => by simpa using h e he

theorem haltTrack_entries (s : State) (t : Track) :
    (haltTrack s t).sched.entries = without t.key s.sched.entries ∧ (haltTrack s t).air.supply = s.air.supply := by
  unfold haltTrack
  split
  · rename_i hnone
    exact ⟨(entryAt_eq_none hnone).symm, rfl⟩
  · rename_i e he
    have hkey : e.track = t.key := by simpa using List.find?_some he
    rw [← hkey, haltEntry]
    split
    · exact closeEntry_entries _ _ _ _
    · exact schedulerEnds_entries _ _ _ _
    · exact schedulerEnds_entries _ _ _ _

theorem haltTrack_spine (s : State) (t : Track) : spine (haltTrack s t) = spine s := by
  unfold haltTrack haltEntry
  split
  · rfl
  · split <;> simp

/-- The station as it enters HALTING, before the tracks are dealt with (R23). -/
def halting (s : State) : State :=
  { s with
    port.station := .halting
    intake.queue := s.intake.queue.filter fun e => !isDetection e }

theorem haltStation_eq (s : State) : haltStation s = s.engine.tracks.foldl haltTrack (halting s) := rfl

theorem haltStation_spine (s : State) : spine (haltStation s) = spine (halting s) :=
  foldl_spine _ haltTrack_spine _ _

/-- An empty schedule gives HALT nothing to end. -/
theorem haltStation_of_empty {s : State} (h : s.sched.entries = []) : haltStation s = halting s := by
  have hstep (t : Track) : haltTrack (halting s) t = halting s := by
    have hnone : entryAt t.key (halting s) = none := by
      rw [entryAt, halting, h]
      rfl
    rw [haltTrack, hnone]
  rw [haltStation_eq]
  induction s.engine.tracks with
  | nil => rfl
  | cons t ts ih => rw [List.foldl_cons, hstep, ih]

/-- Every entry that belongs to a track has left. -/
theorem haltStation_entries {s : State} (h : ∀ e ∈ s.sched.entries, ∃ t ∈ s.engine.tracks, t.key = e.track) :
    (haltStation s).sched.entries = [] := by
  rw [haltStation_eq, (foldl_entries (fun (t : Track) => t.key) haltTrack haltTrack_entries _ _).1, List.filter_eq_nil_iff]
  intro e he
  obtain ⟨t, ht, hkey⟩ := h e he
  have hany : (s.engine.tracks.any fun x => x.key = e.track) = true := List.any_eq_true.2 ⟨t, ht, by simpa using hkey⟩
  rw [hany]
  decide

/-- Settles O51. -/
theorem haltEntersHalting : Obligations.HaltEntersHalting := by
  intro s hpend hheld
  have hrun (hstation : s.port.station = .running) :
      exec (.halt []) s = .next { syncBar (haltStation s) with port.response := [0, 0, 0] } :=
    exec_port hpend hheld rfl ((judge_of_ok _ s (decide_eq_true hstation) rfl).trans (carryOut_noData _ s))
  refine ⟨fun hstation => exec_port hpend hheld rfl (judge_of_refused _ _ s (decide_eq_false hstation)),
    fun hstation hbar hempty => ?_, fun hstation hlive => ⟨_, hrun hstation, ?_⟩⟩
  · rw [hrun hstation, haltStation_of_empty hempty, syncBar_of_sameBar hbar (t := halting s) {}]
    rfl
  · have hspine := haltStation_spine s
    have hstation' := station_of_spine hspine
    have hbelt := belt_of_spine hspine
    have haccept := congrArg State.accept hspine
    have hpeers := congrArg (fun a : State => a.members.peers) hspine
    have hqueue := congrArg (fun a : State => a.intake.queue) hspine
    have hentries := haltStation_entries hlive
    have hdrive : (syncBar (haltStation s)).bar.drive = 0 :=
      (syncBar_inStep _).1.trans (driveOf_of_noneOpen (by simp [hentries]))
    simp only [syncBar_frame]
    exact ⟨hstation', trivial, hentries, hdrive, hbelt, haccept, hpeers, hqueue⟩

/-! #### The end of HALTING (R92, R147) -/

/-- Only the counts and the marks of a block told of an outcome differ. -/
def Told (s t : State) : Prop :=
  ∃ tracks skipped unsent confirmUnsent,
    t = { s with
          engine.tracks := tracks
          members.skipped := skipped
          claim.unsent := unsent
          chute.confirmUnsent := confirmUnsent }

theorem noticeOutcome_told (n : Notice) (r : TxReport) (s : State) : Told s (noticeOutcome n r s) := by
  unfold noticeOutcome pieceOutcome
  repeat' split
  all_goals exact ⟨_, _, _, _, rfl⟩

/-- Ending the slots of notices that are no CLAIM (R92). -/
theorem foldl_offlineSlot {l : List Slot} {s : State} (h : ∀ x ∈ l, ∀ id c, x.notice ≠ .claim id c) :
    ∃ t, Told s t
      ∧ l.foldl offlineSlot s
        = { t with link.slots := s.link.slots.filter fun y => l.all fun x => y.handle ≠ x.handle } := by
  induction l generalizing s with
  | nil => exact ⟨s, ⟨_, _, _, _, rfl⟩, by simp⟩
  | cons x xs ih =>
    obtain ⟨hx, hxs⟩ := List.forall_mem_cons.1 h
    have hstep : offlineSlot s x = noticeOutcome x.notice ⟨.cancelled .offline, x.latch⟩ (removeSlot x.handle s) := by
      rw [offlineSlot, endSlot_of_notice _ s hx]
    obtain ⟨a, b, c, d, htold⟩ := noticeOutcome_told x.notice ⟨.cancelled .offline, x.latch⟩ (removeSlot x.handle s)
    obtain ⟨t, ⟨a', b', c', d', ht⟩, hfold⟩ := ih (s := offlineSlot s x) hxs
    have hslots : (offlineSlot s x).link.slots = s.link.slots.filter fun y => y.handle ≠ x.handle := by
      rw [hstep, htold]
      rfl
    refine ⟨{ s with
      engine.tracks := a', members.skipped := b', claim.unsent := c', chute.confirmUnsent := d' }, ⟨_, _, _, _, rfl⟩, ?_⟩
    rw [List.foldl_cons, hfold, hslots, ht, hstep, htold, List.filter_filter]
    simp only [List.all_cons, Bool.and_comm]
    rfl

theorem isClaimWork_iff (n : Notice) : isClaimWork n = true ↔ noticeClass n = .urgent := by
  cases n <;> simp [isClaimWork, noticeClass]

theorem haltingDone_iff (s : State) :
    haltingDone s = true ↔ s.port.station = .halting ∧ (∀ x ∈ s.link.slots, noticeClass x.notice ≠ .urgent)
      ∧ s.claim.ownClaims = [] ∧ s.claim.dropNotices = [] := by
  rw [haltingDone, Bool.and_eq_true, Bool.and_eq_true, Bool.and_eq_true, decide_eq_true_eq, Bool.not_eq_true', ← Bool.not_eq_true,
    List.any_eq_true, List.isEmpty_iff, List.isEmpty_iff, and_assoc, and_assoc]
  simp only [isClaimWork_iff, not_exists, not_and, ne_eq]

/-- Settles O48. -/
theorem haltingEndsWithoutClaimWork : Obligations.HaltingEndsWithoutClaimWork := by
  intro s
  refine ⟨fun hstation hclaims hdrops hslots => ?_, fun hnot => ?_⟩
  · have hdone : haltingDone s = true := by
      refine (haltingDone_iff s).2 ⟨hstation, fun x hx => ?_, hclaims, hdrops⟩
      rcases hslots x hx with ⟨_, h⟩ | ⟨_, _, h⟩ | ⟨_, _, _, h⟩ <;> rw [h] <;> nofun
    have hnoClaim : ∀ x ∈ s.link.slots, ∀ id c, x.notice ≠ .claim id c := by
      intro x hx id c hclaim
      rcases hslots x hx with ⟨_, h⟩ | ⟨_, _, h⟩ | ⟨_, _, _, h⟩ <;> exact nomatch h.symm.trans hclaim
    obtain ⟨a, ⟨tracks, skipped, unsent, confirmUnsent, ha⟩, hfold⟩ := foldl_offlineSlot (s := s) hnoClaim
    have hnone : (s.link.slots.filter fun y => s.link.slots.all fun x => y.handle ≠ x.handle) = [] := by
      rw [List.filter_eq_nil_iff]
      intro y hy hall
      simpa using List.all_eq_true.1 hall y hy
    rw [hnone] at hfold
    have hexec : exec .haltingEnd s = .next (syncBar (enterHalted s)) := if_pos hdone
    refine ⟨_, hexec, ?_⟩
    have hclosed := syncBar_closed (s := enterHalted s) nofun rfl
    simp only [syncBar_frame]
    rw [hclosed.1, hclosed.2, enterHalted, goOffline, hfold, ha]
    exact ⟨rfl, rfl, rfl, rfl, rfl, rfl, rfl, rfl, rfl, rfl, rfl, rfl, rfl, rfl, rfl, rfl, rfl, rfl, rfl, rfl, rfl, rfl,
      rfl, rfl, rfl, rfl⟩
  · refine if_neg fun hdone => ?_
    obtain ⟨hstation, hslots, hclaims, hdrops⟩ := (haltingDone_iff s).1 hdone
    rcases hnot with h | h | h | ⟨x, hx, h⟩
    · exact h hstation
    · exact h hclaims
    · exact h hdrops
    · exact hslots x hx h

end Sys2Proof.Machine
end

/-! ### Edits of the valve map (R165, R172, R173, R190) -/

section
namespace Sys2Proof.Machine

set_option Elab.async false

/-! #### The checks of an edit -/

/-- An edit that passes its checks names each valve at most once, by a descriptor that there is. -/
structure EditSound (pairs : List (Nat × Nat)) : Prop where
  known : ∀ q ∈ pairs, q.1 ≤ 63 ∧ q.2 ≤ 3
  once : ∀ v, v < 64 → (pairs.filter fun q => q.1 = v).length < 2

theorem editSound_of_editFault_none {pairs : List (Nat × Nat)} {m : Vector Valve 64} (h : editFault pairs m = none) :
    EditSound pairs := by
  unfold editFault at h
  dsimp only at h
  split at h
  · cases h
  rename_i hbad
  split at h
  · cases h
  rename_i htwice
  clear h
  constructor
  · intro q hq
    have hnot := List.find?_eq_none.1 hbad q hq
    simpa [badPair] using hnot
  · intro v hv
    have hnot := List.find?_eq_none.1 htwice v (List.mem_range.2 hv)
    simpa [namedTwice] using hnot

theorem find_of_once {pairs : List (Nat × Nat)} {q : Nat × Nat} (hq : q ∈ pairs)
    (h : (pairs.filter fun p => p.1 = q.1).length < 2) : pairs.find? (fun p => p.1 = q.1) = some q := by
  have hmem : q ∈ pairs.filter fun p => p.1 = q.1 := List.mem_filter.2 ⟨hq, by simp⟩
  obtain ⟨x, hx⟩ : ∃ x, (pairs.filter fun p => p.1 = q.1) = [x] := by
    refine List.length_eq_one_iff.1 ?_
    have hpos := List.length_pos_of_mem hmem
    omega
  rw [hx, List.mem_singleton] at hmem
  rw [← List.head?_filter, hx, hmem]
  rfl

/-- The descriptor an edit lists for a valve is that of the one pair that names it. -/
theorem listedAs_of_mem {pairs : List (Nat × Nat)} (hs : EditSound pairs) {q : Nat × Nat} (hq : q ∈ pairs) :
    listedAs pairs q.1 = descriptorOf q.2 := by
  have hknown := hs.known q hq
  rw [listedAs, find_of_once hq (hs.once q.1 (by omega))]

theorem listedAs_of_unlisted {pairs : List (Nat × Nat)} {v : Nat} (h : ∀ q ∈ pairs, q.1 ≠ v) : listedAs pairs v = none := by
  have hnone : pairs.find? (fun q => q.1 = v) = none := List.find?_eq_none.2 fun q hq => by simpa using h q hq
  rw [listedAs, hnone]

theorem listedAs_retired_iff {pairs : List (Nat × Nat)} (hs : EditSound pairs) (u : Nat) :
    listedAs pairs u = some .retired ↔ (u, 1) ∈ pairs := by
  refine ⟨fun h => ?_, fun h => listedAs_of_mem hs h⟩
  unfold listedAs at h
  split at h
  · cases h
  · rename_i q hq
    have hmem := List.mem_of_find?_eq_some hq
    have hu : q.1 = u := by simpa using List.find?_some hq
    have hone : q.2 = 1 := by
      unfold descriptorOf at h
      split at h <;> simp_all
    rw [← hu, ← hone]
    exact hmem

/-! #### The valves after an edit -/

theorem editedMap_getElem (pairs : List (Nat × Nat)) (m : Vector Valve 64) (v : Fin 64) :
    (editedMap pairs m)[v] = editedValve pairs m v :=
  Vector.getElem_ofFn v.isLt

theorem editedValve_of_mem {pairs : List (Nat × Nat)} (hs : EditSound pairs) (m : Vector Valve 64) {v : Fin 64} {q : Nat × Nat}
    (hq : q ∈ pairs) (hv : q.1 = v.val) :
    editedValve pairs m v
      = match q.2 with
        | 0 => { m[v] with descriptor := .active, streak := 0, suspect := false }
        | 1 => { m[v] with descriptor := .retired }
        | 2 => { m[v] with descriptor := .coveredLeft }
        | _ => { m[v] with descriptor := .coveredRight } := by
  have hlisted : listedAs pairs v = descriptorOf q.2 := hv ▸ listedAs_of_mem hs hq
  have hknown := (hs.known q hq).2
  rw [editedValve, prospective, hlisted]
  obtain ⟨w, k⟩ := q
  dsimp only at hknown ⊢
  interval_cases k <;> rfl

theorem editedValve_of_unlisted {pairs : List (Nat × Nat)} (hs : EditSound pairs) (m : Vector Valve 64) {v : Fin 64}
    (h : ∀ q ∈ pairs, q.1 ≠ v.val) :
    editedValve pairs m v
      = if (m[v].descriptor = .coveredLeft ∧ (v.val - 1, 1) ∈ pairs)
            ∨ (m[v].descriptor = .coveredRight ∧ (v.val + 1, 1) ∈ pairs) then
          { m[v] with descriptor := .retired }
        else m[v] := by
  have hlisted : listedAs pairs v = none := listedAs_of_unlisted h
  have hprospective : prospective pairs m v
      = if (m[v].descriptor = .coveredLeft ∧ (v.val - 1, 1) ∈ pairs)
            ∨ (m[v].descriptor = .coveredRight ∧ (v.val + 1, 1) ∈ pairs) then .retired
        else m[v].descriptor := by
    rw [prospective, hlisted]
    dsimp only
    rw [coverOf, descAt_fin]
    cases hd : m[v].descriptor <;> simp [listedAs_retired_iff hs]
  rw [editedValve, hlisted, if_neg nofun, hprospective]
  split <;> rfl

/-! #### The command -/

theorem editLengthOk_iff (arg : List Byte) :
    editLengthOk arg = true ↔ 1 ≤ u8 arg 0 ∧ u8 arg 0 ≤ 64 ∧ arg.length = 1 + 2 * u8 arg 0 := by
  simp [editLengthOk, and_assoc]

theorem mapAbortedFrame_eq (f : EditFault) :
    mapAbortedFrame f
      = match f with
        | .badValve v => [3, 0, 2, 0, byteOf v]
        | .badCover v => [3, 0, 2, 1, byteOf v]
        | .tableFull => [3, 0, 2, 2, 0]
        | .doubleCover v => [3, 0, 2, 3, byteOf v]
        | .repeated v => [3, 0, 2, 4, byteOf v] := by
  have hlen : (abortBytes f).length = 2 := by cases f <;> rfl
  rw [mapAbortedFrame, frameOf, hlen]
  cases f <;> rfl

/-- Settles O52. -/
theorem editsTakeEffectAsOneChange : Obligations.EditsTakeEffectAsOneChange := by
  intro s arg hpend hheld hstation
  have hexec : exec (.editValveMap arg) s = .next (editChecked arg s) :=
    exec_port hpend hheld rfl (judge_of_ok _ s (decide_eq_true hstation) rfl)
  rw [hexec]
  refine ⟨fun hbad => ?_, fun hlo hhi hlen => ⟨fun f hf => ?_, fun hnone => ?_⟩⟩
  · have hlength : editLengthOk arg = false := by
      rw [← Bool.not_eq_true, editLengthOk_iff]
      omega
    rw [editChecked, hlength]
    rfl
  · have hlength := (editLengthOk_iff arg).2 ⟨hlo, hhi, hlen⟩
    have haborted : editChecked arg s
        = respond (mapAbortedFrame f) { s with valves.abortedEdits := bump s.valves.abortedEdits } := by
      rw [editChecked, hlength, applyEdit, hf]
      rfl
    exact congrArg _ (haborted.trans (congrArg (respond · _) (mapAbortedFrame_eq f)))
  · have hlength := (editLengthOk_iff arg).2 ⟨hlo, hhi, hlen⟩
    have hs := editSound_of_editFault_none hnone
    have hdone : editChecked arg s
        = respond (doneFrame []) (syncBar (installMap (editedMap (editPairs arg) s.valves.valve)
            { s with valves.edits := bump s.valves.edits })) := by
      rw [editChecked, hlength, applyEdit, hnone]
      rfl
    refine ⟨_, congrArg _ hdone, ?_⟩
    have hdrive := (syncBar_inStep (installMap (editedMap (editPairs arg) s.valves.valve)
      { s with valves.edits := bump s.valves.edits })).1
    refine ⟨?_, ?_, fun v q hq hv => ?_, fun v hv => ?_, fun left hleft => ?_, hdrive, ?_⟩
    all_goals simp only [respond, syncBar_frame]
    · rfl
    · rfl
    · exact (editedMap_getElem _ _ v).trans (editedValve_of_mem hs _ hq hv)
    · exact (editedMap_getElem _ _ v).trans (editedValve_of_unlisted hs _ hv)
    · have hsame : left = leftActive s.valves.valve (editedMap (editPairs arg) s.valves.valve) := by
        refine BitVec.eq_of_getLsbD_eq fun v hv => Bool.eq_iff_iff.2 ?_
        refine (hleft ⟨v, hv⟩).trans (Iff.trans ?_ (getLsbD_leftActive (v := ⟨v, hv⟩)).symm)
        simp only [respond, syncBar_frame]
        rfl
      rw [hsame]
      rfl
    · exact ⟨rfl, rfl, rfl⟩

end Sys2Proof.Machine
end

/-! ### Station reset and power-on reset (R13, R28, R179, R199, R200) -/

section
namespace Sys2Proof.Machine

set_option Elab.async false

theorem abandonReception_eq (r : Reception) : abandonReception r = if r = .idle then .idle else .abandoned := by
  cases r <;> rfl

theorem modeAfterReset_eq (s : State) :
    modeAfterReset s.port.profile = if (prof s).quickOnly then .quick else .full := by
  unfold modeAfterReset prof
  cases s.port.profile <;> rfl

theorem adoptedAfterReset_eq (s : State) : adoptedAfterReset s.port.profile = (prof s).fallback := by
  unfold adoptedAfterReset prof
  cases s.port.profile <;> rfl

/-- The state a reset leaves, by the pin or by the command (R200). -/
def resetBy (cause : ResetCause) (s : State) : State :=
  { stationReset s with port.resetHeld := s.port.resetHeld || decide (cause = .pinAsserted) }

theorem exec_stationReset_taken {cause : ResetCause} {s : State}
    (h : cause = .pinAsserted ∧ s.port.resetHeld = false ∨ cause = .command ∧ s.port.resetPending = true) :
    exec (.stationReset cause) s = .next (resetBy cause s) := by
  obtain ⟨rfl, hheld⟩ | ⟨rfl, hpend⟩ := h
  · refine (if_neg (by simp [hheld])).trans ?_
    rw [resetBy, hheld]
    rfl
  · refine (exec_stationReset_command hpend).trans ?_
    have hno : decide (ResetCause.command = .pinAsserted) = false := rfl
    rw [resetBy, hno, Bool.or_false]
    rfl

/-- No record and no flag is left where the watermark asks for a record (R198). -/
theorem eventFlags_of_cleared {s : State} (hs : WatermarkSet s) (houtcomes : s.port.outcomes = [])
    (hflags : s.port.flags = 0) : eventFlags s = 0 := by
  have hready : outcomesReady s = false := by
    unfold outcomesReady
    cases hp : s.port.profile with
    | none => rfl
    | some p =>
      have hone := hs p hp
      rw [houtcomes]
      exact decide_eq_false (Nat.not_le.2 hone)
  rw [eventFlags, hflags, hready]
  rfl

theorem attention_of_cleared {s : State} (hs : WatermarkSet s) (houtcomes : s.port.outcomes = [])
    (hflags : s.port.flags = 0) : attention s = false := by
  rw [attention, eventFlags_of_cleared hs houtcomes hflags]
  simp

theorem sendClosed_drive (b : Bar) : (sendClosed b).drive = 0 ∧ (sendClosed b).pilot = false := by
  unfold sendClosed
  split <;> exact ⟨rfl, rfl⟩

theorem sendClosed_of_none {b : Bar} (h : b.transfer = none) :
    (sendClosed b).transfer = some (transferBytes 0 false) ∧ (sendClosed b).again = false := by
  rw [sendClosed, h]
  exact ⟨rfl, rfl⟩

theorem sendClosed_of_some {b : Bar} (h : b.transfer ≠ none) :
    (sendClosed b).transfer = b.transfer ∧ (sendClosed b).again = true := by
  rw [sendClosed, if_pos (Option.isSome_iff_ne_none.2 h)]
  exact ⟨rfl, rfl⟩

/-- Settles O56. -/
theorem stationResetKeepsProfileMaskAndValves : Obligations.StationResetKeepsProfileMaskAndValves := by
  refine ⟨nofun, watermarkSet_keptByEveryStep, fun s left hleft => ⟨fun hpend => ?_, fun hheld => ⟨?_, ?_⟩, fun hheld => ?_,
    fun cause hcause => ⟨_, exec_stationReset_taken hcause, ?_⟩⟩⟩
  · exact if_neg (by simp [hpend])
  · exact if_pos hheld
  · refine (if_pos hheld).trans ?_
    rw [releaseReset, abandonReception_eq, hleft]
  · exact if_neg (by simp [hheld])
  · obtain ⟨hdrive, hpilot⟩ := sendClosed_drive s.bar
    refine ⟨rfl, rfl, rfl, rfl, fun hs => attention_of_cleared hs rfl rfl, ?_, ?_, rfl, rfl, rfl, ?_, rfl, rfl, rfl, rfl,
      hdrive, hpilot, sendClosed_of_none, sendClosed_of_some⟩
    · rw [hleft, ← abandonReception_eq]
      rfl
    · rw [← modeAfterReset_eq]
      rfl
    · rw [← adoptedAfterReset_eq]
      rfl

/-- Settles O57. -/
theorem powerOnResetClearsThePart : Obligations.PowerOnResetClearsThePart := by
  intro s left hleft
  have hreception : (powerOn s).intake.reception = left := by
    rw [hleft, ← abandonReception_eq]
    rfl
  have hwhole : powerOn s
      = { State.reset with
          pending := s.pending
          intake.reception := left
          air.pressureOk := s.air.pressureOk
          port.resetHeld := s.port.resetHeld } := by
    rw [hleft, ← abandonReception_eq]
    rfl
  refine ⟨powerOn s, rfl, rfl, rfl, rfl, hreception, rfl, rfl, rfl,
    eventFlags_of_cleared (s := powerOn s) nofun rfl rfl, rfl,
    attention_of_cleared (s := powerOn s) nofun rfl rfl, rfl, rfl, rfl, rfl, rfl, rfl, rfl, rfl, rfl, rfl,
    rfl, rfl, rfl, rfl, rfl, rfl, fun v => ?_, rfl, rfl, rfl, rfl, rfl, rfl, rfl, rfl, rfl, rfl, rfl, hwhole⟩
  change (Vector.replicate 64 Valve.fresh)[v] = _
  rw [Fin.getElem_fin, Vector.getElem_replicate]
  rfl

end Sys2Proof.Machine
end

/-! ### Every notice is read back from its frame (R78, R79, R99, R103) -/

section
namespace Sys2Proof.Machine

set_option Elab.async false

/-! #### Numbers in bytes -/

theorem toNat_byteOf (n : Nat) : (byteOf n).toNat = n % 256 := BitVec.toNat_ofNat n 8

theorem bytes2_value {n : Nat} (h : n < 65536) : (byteOf (n / 256)).toNat * 256 + (byteOf n).toNat = n := by
  rw [toNat_byteOf, toNat_byteOf]
  omega

theorem bytes3_value {n : Nat} (h : n < 16777216) :
    ((byteOf (n / 65536)).toNat * 256 + (byteOf (n / 256)).toNat) * 256 + (byteOf n).toNat = n := by
  rw [toNat_byteOf, toNat_byteOf, toNat_byteOf]
  omega

theorem ofNat_toNat_eq {w n : Nat} {v : BitVec w} (h : n = v.toNat) : BitVec.ofNat w n = v := by
  rw [h, BitVec.ofNat_toNat, BitVec.setWidth_eq]

theorem fin_ofNat_byteOf {n : Nat} [NeZero n] (hn : n ≤ 256) (x : Fin n) : Fin.ofNat n (byteOf x.val).toNat = x := by
  have hx := x.isLt
  refine Fin.ext ?_
  change (byteOf x.val).toNat % n = x.val
  rw [byteOf_toNat_of_lt (by omega), Nat.mod_eq_of_lt hx]

/-- A piece ID is read back from the bytes that begin with it (R99). -/
theorem idAt_idBytes (id : PieceId) (rest : List Byte) : idAt (idBytes id ++ rest) 0 = id := by
  obtain ⟨node, seq⟩ := id
  have hnode := node.isLt
  have hseq := seq.isLt
  change (⟨Fin.ofNat 16 ((byteOf ((node.val * 4096 + seq.val) / 256)).toNat / 16),
    Fin.ofNat 4096 ((byteOf ((node.val * 4096 + seq.val) / 256)).toNat * 256 + (byteOf (node.val * 4096 + seq.val)).toNat)⟩ : PieceId)
    = ⟨node, seq⟩
  rw [bytes2_value (by omega), byteOf_toNat_of_lt (by omega), PieceId.mk.injEq]
  refine ⟨Fin.ext ?_, Fin.ext ?_⟩
  · change (node.val * 4096 + seq.val) / 256 / 16 % 16 = node.val
    omega
  · change (node.val * 4096 + seq.val) % 4096 = seq.val
    omega

/-! #### Bodies -/

theorem pairsAt_append (before : List Byte) (pairs : List ClassScore) :
    pairsAt (before ++ pairBytes pairs) before.length pairs.length = pairs := by
  induction pairs generalizing before with
  | nil => rfl
  | cons q qs ih =>
    have hcls : u8 (before ++ pairBytes (q :: qs)) before.length = (byteOf q.cls).toNat := by
      rw [u8, List.getD_append_right _ _ _ _ (le_refl _), Nat.sub_self]
      rfl
    have hscore : (before ++ pairBytes (q :: qs)).getD (before.length + 1) 0 = q.score := by
      rw [List.getD_append_right _ _ _ _ (by omega), Nat.add_sub_cancel_left]
      rfl
    have hsplit : before ++ pairBytes (q :: qs) = (before ++ [byteOf q.cls, q.score]) ++ pairBytes qs := by
      rw [List.append_assoc]
      rfl
    have hrest : pairsAt (before ++ pairBytes (q :: qs)) (before.length + 2) qs.length = qs := by
      have hqs := ih (before ++ [byteOf q.cls, q.score])
      rwa [List.length_append, ← hsplit] at hqs
    rw [List.length_cons, pairsAt, hcls, hscore, hrest, fin_ofNat_byteOf (by decide)]

theorem flags3_bits (a b c : Bool) :
    (byteOf (flagValue a 128 + flagValue b 64 + flagValue c 32)).getLsbD 7 = a
      ∧ (byteOf (flagValue a 128 + flagValue b 64 + flagValue c 32)).getLsbD 6 = b
      ∧ (byteOf (flagValue a 128 + flagValue b 64 + flagValue c 32)).getLsbD 5 = c := by
  revert a b c
  decide

theorem heartbeatTail_bits (m : Mode) (a b : Bool) (p : Supply) :
    modeOf ((byteOf (modeCode m * 128 + flagValue a 64 + flagValue b 32 + supplyCode p)).getLsbD 7) = m
      ∧ (byteOf (modeCode m * 128 + flagValue a 64 + flagValue b 32 + supplyCode p)).getLsbD 6 = a
      ∧ (byteOf (modeCode m * 128 + flagValue a 64 + flagValue b 32 + supplyCode p)).getLsbD 5 = b
      ∧ supplyOf ((byteOf (modeCode m * 128 + flagValue a 64 + flagValue b 32 + supplyCode p)).toNat % 8) = some p := by
  cases m <;> cases p <;> revert a b <;> decide

theorem heartbeatOf_heartbeatBytes {h : Heartbeat} (hfits : WireFits (.heartbeat h)) :
    heartbeatOf (heartbeatBytes h) = some h := by
  obtain ⟨hrole, hlo, hhi⟩ := hfits
  obtain ⟨hsense, heject, hcheck⟩ := flags3_bits h.sense h.eject h.check
  obtain ⟨hmode, hoverrun, hfull, hsupply⟩ := heartbeatTail_bits h.mode h.overrun h.trackFull h.supply
  have hperiod := h.period.isLt
  have hdatum := h.datum.isLt
  have hspeed := h.speed.isLt
  have hprimary := h.primary.isLt
  have hfallback := h.fallback.isLt
  have h0 : bitAt (heartbeatBytes h) 0 7 = h.sense := hsense
  have h1 : bitAt (heartbeatBytes h) 0 6 = h.eject := heject
  have h2 : bitAt (heartbeatBytes h) 0 5 = h.check := hcheck
  have h3 : u16 (heartbeatBytes h) 1 = h.period.toNat := bytes2_value (n := h.period.toNat) (by omega)
  have h4 : u24 (heartbeatBytes h) 3 = h.datum.toNat := bytes3_value hdatum
  have h5 : u16 (heartbeatBytes h) 6 = h.speed.toNat := bytes2_value (n := h.speed.toNat) (by omega)
  have h6 : u16 (heartbeatBytes h) 8 = h.primary.toNat := bytes2_value hprimary
  have h7 : u16 (heartbeatBytes h) 10 = h.fallback.toNat := bytes2_value hfallback
  have h8 : modeOf (bitAt (heartbeatBytes h) 12 7) = h.mode := hmode
  have h9 : bitAt (heartbeatBytes h) 12 6 = h.overrun := hoverrun
  have h10 : bitAt (heartbeatBytes h) 12 5 = h.trackFull := hfull
  have h11 : supplyOf (u8 (heartbeatBytes h) 12 % 8) = some h.supply := hsupply
  have hlen : (heartbeatBytes h).length = 13 := rfl
  have hok : (decide ((heartbeatBytes h).length = 13) && (h.sense || h.eject || h.check) && decide (20 ≤ h.period.toNat)
      && decide (h.period.toNat ≤ 250)) = true := by
    rw [hrole, decide_eq_true hlo, decide_eq_true hhi, decide_eq_true hlen]
    rfl
  rw [heartbeatOf, h11]
  dsimp only
  rw [h0, h1, h2, h3, if_pos hok, h4, h5, h6, h7, h8, h9, h10]
  have hp : byteOf h.period.toNat = h.period := ofNat_toNat_eq rfl
  rw [hp, ofNat_toNat_eq rfl, ofNat_toNat_eq rfl, ofNat_toNat_eq rfl, ofNat_toNat_eq rfl]

theorem pieceTail_bits (k : SourceKind) (m : Mode) (c : Bool) (n : Fin 5) :
    Fin.ofNat 8 ((byteOf (k * 32 + modeCode m * 16 + flagValue c 8 + n)).toNat / 32) = k
      ∧ modeOf ((byteOf (k * 32 + modeCode m * 16 + flagValue c 8 + n)).getLsbD 4) = m
      ∧ (byteOf (k * 32 + modeCode m * 16 + flagValue c 8 + n)).getLsbD 3 = c
      ∧ (byteOf (k * 32 + modeCode m * 16 + flagValue c 8 + n)).toNat % 8 = n := by
  cases m <;> revert k c n <;> decide

theorem pieceOf_bodyBytes {pos : BitVec 24} {i : PieceInfo} (hfits : WireFits (.piece pos i)) :
    pieceOf (bodyBytes (.piece pos i)) = some (.piece pos i) := by
  obtain ⟨hlen, hlane, hpairs⟩ := hfits
  obtain ⟨hkind, hmode, hcluster, hcount⟩ := pieceTail_bits i.kind i.mode i.cluster ⟨i.pairs.length, by omega⟩
  have hpos := pos.isLt
  have hlength := i.length.isLt
  obtain ⟨b, hb⟩ : ∃ b, b = bodyBytes (.piece pos i) := ⟨_, rfl⟩
  have h0 : idAt b 0 = i.id := by rw [hb]; exact idAt_idBytes i.id _
  have h1 : u24 b 2 = pos.toNat := by rw [hb]; exact bytes3_value hpos
  have h2 : u16 b 5 = i.length.toNat := by rw [hb]; exact bytes2_value (n := i.length.toNat) (by omega)
  have h3 : b.getD 7 0 = i.laneLo := by rw [hb]; rfl
  have h4 : b.getD 8 0 = i.laneHi := by rw [hb]; rfl
  have h5 : Fin.ofNat 8 (u8 b 9 / 32) = i.kind := by rw [hb]; exact hkind
  have h6 : modeOf (bitAt b 9 4) = i.mode := by rw [hb]; exact hmode
  have h7 : bitAt b 9 3 = i.cluster := by rw [hb]; exact hcluster
  have h8 : u8 b 9 % 8 = i.pairs.length := by rw [hb]; exact hcount
  have h9 : pairsAt b 10 i.pairs.length = i.pairs := by
    rw [hb]
    exact pairsAt_append (idBytes i.id ++ bytes3 pos.toNat ++ bytes2 i.length.toNat ++ [i.laneLo, i.laneHi]
      ++ [byteOf (i.kind * 32 + modeCode i.mode * 16 + flagValue i.cluster 8 + i.pairs.length)]) i.pairs
  have hsize : b.length = 10 + 2 * i.pairs.length := by
    rw [hb]
    simp [bodyBytes, idBytes, bytes2, bytes3, pairBytes]
    omega
  have hl : BitVec.ofNat 12 i.length.toNat = i.length := ofNat_toNat_eq rfl
  have hok : (decide (i.pairs.length ≤ 4) && decide (b.length = 10 + 2 * i.pairs.length) && decide (i.length ≠ 0)
      && decide (u8 b 7 ≤ u8 b 8)) = true := by
    have hlanes : u8 b 7 ≤ u8 b 8 := by
      rw [u8, u8, h3, h4]
      exact hlane
    rw [decide_eq_true hpairs, decide_eq_true hsize, decide_eq_true hlen, decide_eq_true hlanes]
    rfl
  rw [← hb, pieceOf]
  rw [h8, h2, hl, if_pos hok, h0, h1, h3, h4, h5, h6, h7, h9, ofNat_toNat_eq rfl]

theorem firedFlags_bits (a b : Bool) (v : ValveNo) :
    (byteOf (flagValue a 128 + flagValue b 64 + v)).getLsbD 7 = a
      ∧ (byteOf (flagValue a 128 + flagValue b 64 + v)).getLsbD 6 = b
      ∧ (byteOf (flagValue a 128 + flagValue b 64 + v)).toNat % 64 = v := by
  revert a b v
  decide

theorem firedOf_bodyBytes {since : BitVec 16} {i : FiredInfo} (hfits : WireFits (.fired since i)) :
    firedOf (bodyBytes (.fired since i)) = some (.fired since i) := by
  obtain ⟨horder, hsome, hmany, hends⟩ := hfits
  obtain ⟨htrimmed, hclamped, hfirst⟩ := firedFlags_bits i.trimmed i.clamped i.first
  obtain ⟨hcut, hweak, hlast⟩ := firedFlags_bits i.cut i.weak i.last
  have hsince := since.isLt
  obtain ⟨b, hb⟩ : ∃ b, b = bodyBytes (.fired since i) := ⟨_, rfl⟩
  have h0 : idAt b 0 = i.id := by rw [hb]; exact idAt_idBytes i.id _
  have h1 : bitAt b 2 7 = i.trimmed := by rw [hb]; exact htrimmed
  have h2 : bitAt b 2 6 = i.clamped := by rw [hb]; exact hclamped
  have h3 : u8 b 2 % 64 = i.first.val := by rw [hb]; exact hfirst
  have h4 : bitAt b 3 7 = i.cut := by rw [hb]; exact hcut
  have h5 : bitAt b 3 6 = i.weak := by rw [hb]; exact hweak
  have h6 : u8 b 3 % 64 = i.last.val := by rw [hb]; exact hlast
  have h7 : b.getD 4 0 = i.valves := by rw [hb]; rfl
  have h8 : u16 b 5 = since.toNat := by rw [hb]; exact bytes2_value hsince
  have hlen : b.length = 7 := by rw [hb]; rfl
  have hfinFirst : Fin.ofNat 64 i.first.val = i.first := Fin.ext (Nat.mod_eq_of_lt i.first.isLt)
  have hfinLast : Fin.ofNat 64 i.last.val = i.last := Fin.ext (Nat.mod_eq_of_lt i.last.isLt)
  have hpositive : i.valves.toNat ≠ 0 := fun h => hsome (BitVec.eq_of_toNat_eq h)
  have hspan : i.first.val = i.last.val ∨ 2 ≤ i.valves.toNat := hends.imp (congrArg Fin.val) id
  have hok : (decide (b.length = 7) && decide (i.first.val ≤ i.last.val) && decide (i.valves.toNat ≠ 0)
      && decide (i.valves.toNat ≤ i.last.val - i.first.val + 1)
      && (decide (i.first.val = i.last.val) || decide (2 ≤ i.valves.toNat))) = true := by
    rw [decide_eq_true hlen, decide_eq_true (show i.first.val ≤ i.last.val from horder), decide_eq_true hpositive,
      decide_eq_true hmany, ← Bool.decide_or, decide_eq_true hspan]
    rfl
  rw [← hb, firedOf]
  rw [h3, h6, show u8 b 4 = i.valves.toNat from congrArg BitVec.toNat h7, if_pos hok, h0, h1, h2, h4, h5, h7, h8, hfinFirst,
    hfinLast, ofNat_toNat_eq rfl]

theorem confirmOf_bodyBytes (id : PieceId) (chute : Fin 4) (result : ConfirmResult) :
    confirmOf (bodyBytes (.confirm id chute result)) = some (.confirm id chute result) := by
  obtain ⟨b, hb⟩ : ∃ b, b = bodyBytes (.confirm id chute result) := ⟨_, rfl⟩
  have h0 : idAt b 0 = id := by rw [hb]; exact idAt_idBytes id _
  have h1 : Fin.ofNat 4 (u8 b 2) = chute := by rw [hb]; exact fin_ofNat_byteOf (by decide) chute
  have h2 : u8 b 2 ≤ 3 := by
    have hlt := chute.isLt
    have hvalue : u8 b 2 = chute.val := by rw [hb]; exact byteOf_toNat_of_lt (by omega)
    omega
  have h3 : u8 b 3 = confirmCode result := by rw [hb]; cases result <;> rfl
  have hlen : b.length = 4 := by rw [hb]; rfl
  have hok : (decide (b.length = 4) && decide (u8 b 2 ≤ 3)) = true := by
    rw [decide_eq_true hlen, decide_eq_true h2]
    rfl
  rw [← hb, confirmOf, if_pos hok, h3, h0, h1]
  cases result <;> rfl

theorem releaseOf_releaseCode (reason : ReleaseReason) :
    releaseOf (byteOf (releaseCode reason)).toNat = some reason := by
  cases reason <;> rfl

/-- A body that fits is read back with every field as it was (R99, R103). -/
theorem wireOf_bodyBytes {w : Wire} (hfits : WireFits w) :
    wireOf (classCode (wireClass w)) (wireKind w) (bodyBytes w) = some w := by
  cases w with
  | heartbeat h => exact congrArg (Option.map Wire.heartbeat) (heartbeatOf_heartbeatBytes hfits)
  | piece pos i => exact pieceOf_bodyBytes hfits
  | claim id cls =>
    have h0 : idAt (bodyBytes (.claim id cls)) 0 = id := idAt_idBytes id _
    have h1 : Fin.ofNat 16 (u8 (bodyBytes (.claim id cls)) 2) = cls := fin_ofNat_byteOf (by decide) cls
    change some (Wire.claim (idAt (bodyBytes (.claim id cls)) 0) (Fin.ofNat 16 (u8 (bodyBytes (.claim id cls)) 2))) = _
    rw [h0, h1]
  | release id reason =>
    have h0 : idAt (bodyBytes (.release id reason)) 0 = id := idAt_idBytes id _
    change (releaseOf (byteOf (releaseCode reason)).toNat).map (Wire.release (idAt (bodyBytes (.release id reason)) 0)) = _
    rw [h0, releaseOf_releaseCode]
    rfl
  | fired since i => exact firedOf_bodyBytes hfits
  | confirm id chute result => exact confirmOf_bodyBytes id chute result

/-! #### The frame -/

theorem bodyBytes_length_le {w : Wire} (hfits : WireFits w) : (bodyBytes w).length ≤ 18 := by
  cases w with
  | piece pos i =>
    obtain ⟨-, -, hpairs⟩ := hfits
    simp [bodyBytes, idBytes, bytes2, bytes3, pairBytes]
    omega
  | heartbeat h => exact (by decide : 13 ≤ 18)
  | claim id cls => exact (by decide : 3 ≤ 18)
  | release id reason => exact (by decide : 3 ≤ 18)
  | fired since i => exact (by decide : 7 ≤ 18)
  | confirm id chute result => exact (by decide : 4 ≤ 18)

/-- The header of 05 §5.2, its fields within their bits, is read back. -/
theorem headerOf_headerBytes {cls kind length : Nat} (origin : Node) (hcls : cls < 4) (hkind : kind < 16) (hlen : length < 64)
    (rest : List Byte) : headerOf (headerBytes cls kind origin length ++ rest) = ⟨cls, kind, origin, length⟩ := by
  have horigin := origin.isLt
  have hfirst : u8 (headerBytes cls kind origin length ++ rest) 0 = cls * 64 + kind * 4 + origin.val / 4 :=
    byteOf_toNat_of_lt (by omega)
  have hsecond : u8 (headerBytes cls kind origin length ++ rest) 1 = origin.val % 4 * 64 + length :=
    byteOf_toNat_of_lt (by omega)
  rw [headerOf, hfirst, hsecond, Header.mk.injEq]
  refine ⟨by omega, by omega, Fin.ext ?_, by omega⟩
  change ((cls * 64 + kind * 4 + origin.val / 4) % 4 * 4 + (origin.val % 4 * 64 + length) / 64) % 16 = origin.val
  omega

theorem classCode_lt (c : AccessClass) : classCode c < 3 := by cases c <;> decide

theorem wireKind_lt (w : Wire) : wireKind w < 16 := by cases w <;> simp [wireKind]

theorem headerOf_frameBytes (origin : Node) {w : Wire} (hfits : WireFits w) :
    headerOf (frameBytes origin w) = ⟨classCode (wireClass w), wireKind w, origin, (bodyBytes w).length⟩ := by
  have hcls := classCode_lt (wireClass w)
  have hlen := bodyBytes_length_le hfits
  rw [frameBytes, headedBytes, List.append_assoc]
  exact headerOf_headerBytes origin (by omega) (wireKind_lt w) (by omega) _

theorem headedBytes_length (origin : Node) (w : Wire) : (headedBytes origin w).length = 2 + (bodyBytes w).length := by
  rw [headedBytes, List.length_append]
  rfl

/-- The two bytes at the end of a frame are the check over the rest (R79). -/
theorem frameGood_frameBytes (origin : Node) {w : Wire} (hfits : WireFits w) : frameGood (frameBytes origin w) = true := by
  have hcls := classCode_lt (wireClass w)
  have hlen := bodyBytes_length_le hfits
  have hsize : (frameBytes origin w).length = 4 + (bodyBytes w).length := by
    rw [frameBytes, List.length_append, headedBytes_length]
    change 2 + (bodyBytes w).length + 2 = _
    omega
  have hcut : (frameBytes origin w).length - 2 = (headedBytes origin w).length := by
    rw [hsize, headedBytes_length]
    omega
  have htake : (frameBytes origin w).take (headedBytes origin w).length = headedBytes origin w := List.take_left
  have hdrop : (frameBytes origin w).drop (headedBytes origin w).length = bytes2 (crc (headedBytes origin w)).toNat :=
    List.drop_left
  rw [frameGood, headerOf_frameBytes origin hfits]
  dsimp only
  rw [hcut, htake, hdrop, hsize, decide_eq_true (show classCode (wireClass w) ≠ 3 by omega),
    decide_eq_true (show (bodyBytes w).length ≤ 20 by omega), decide_eq_true rfl, decide_eq_true rfl]
  rfl

/-- Settles O29. -/
theorem everyNoticeSurvivesTheLine : Obligations.EveryNoticeSurvivesTheLine := by
  intro origin w hfits
  have hbody : ((frameBytes origin w).drop 2).take (bodyBytes w).length = bodyBytes w := List.take_left
  rw [headerOf_frameBytes origin hfits]
  exact ⟨frameGood_frameBytes origin hfits, rfl, rfl, rfl, (congrArg _ hbody).trans (wireOf_bodyBytes hfits)⟩

end Sys2Proof.Machine
end

/-! ### Evaluations, examinations and claim requests, branch by branch (R62 to R66, R136, R137, R151) -/

section
namespace Sys2Proof.Machine

set_option Elab.async false

/-! #### One track of the table changed -/

theorem find_map_of_fixed {α : Type} {p : α → Bool} {f : α → α} {l : List α} {t : α} (hp : ∀ u, p (f u) = p u)
    (h : l.find? p = some t) : (l.map f).find? p = some (f t) := by
  have hcomp : (p ∘ f) = p := funext hp
  rw [List.find?_map, hcomp, h]
  rfl

theorem trackAt_modifyTrack {k : Nat} {f : Track → Track} {s : State} {t : Track} (hf : ∀ u, (f u).key = u.key)
    (h : trackAt k s = some t) : trackAt k (modifyTrack k f s) = some (f t) := by
  have hkey : t.key = k := by simpa using List.find?_some h
  have hfind := find_map_of_fixed (p := fun u : Track => decide (u.key = k)) (f := fun u => if u.key = k then f u else u)
    (fun u => by by_cases hu : u.key = k <;> simp [hu, hf]) h
  rwa [if_pos hkey] at hfind

/-! #### The evaluation at a decision point (R62 to R66) -/

/-- The state after an evaluation at a decision point, before the hand-off (R63, R64, R66). -/
def pointTaken (k : Nat) (d : Decision) (s : State) : State :=
  { s with
    engine.tracks := s.engine.tracks.map fun u => if u.key = k then { u with pointMet := true, decision := d } else u
    engine.undecided := if d = .undecided s.engine.mode then bump s.engine.undecided else s.engine.undecided }

theorem decisionOf_eq {p : Profile} {mode : Mode} {acc : Vector Nat 16} {c : ClassCode} {m : Nat} (hc : c = leadingClass acc)
    (hm : m = acc[c] - runnerUp acc) :
    decisionOf p mode acc = if p.aMin ≤ acc[c] ∧ p.mMin[c] ≤ m then .decided c m mode else .undecided mode := by
  subst hc
  have hlead : leadMargin acc = m := hm.symm
  rw [decisionOf, hlead]
  simp only [Bool.and_eq_true, decide_eq_true_eq]

theorem meetPoint_of_closed {k : Nat} {s : State} {t : Track} (ht : trackAt k s = some t) (hown : mayEvaluate t = false) :
    meetPoint k s = modifyTrack k (fun u => { u with pointMet := true }) s := by
  rw [meetPoint, ht]
  dsimp only
  rw [hown, if_neg Bool.false_ne_true]

theorem decidedClass_isNone_of {d : Decision} {c : ClassCode} {m : Nat} {mode : Mode}
    (h : d = .decided c m mode ∨ d = .undecided mode) : (decidedClass d).isNone = true ↔ d = .undecided mode := by
  rcases h with rfl | rfl <;> simp [decidedClass]

/-- An evaluation writes its decision and hands it off (R64, R65). -/
theorem meetPoint_of_open {k : Nat} {s : State} {t : Track} {d : Decision} {c : ClassCode} {m : Nat}
    (ht : trackAt k s = some t) (hown : mayEvaluate t = true) (hd : decisionOf (prof s) s.engine.mode t.accumulators = d)
    (hkind : d = .decided c m s.engine.mode ∨ d = .undecided s.engine.mode) :
    meetPoint k s = handOff k t.decision .decisionPoint (pointTaken k d s) := by
  have hmet : trackAt k (modifyTrack k (fun u => { u with pointMet := true }) s) = some { t with pointMet := true } :=
    trackAt_modifyTrack (fun _ => rfl) ht
  have htwo : modifyTrack k (fun u => { u with decision := d }) (modifyTrack k (fun u => { u with pointMet := true }) s)
      = modifyTrack k (fun u => { u with pointMet := true, decision := d }) s :=
    modifyTrack_modifyTrack (f := fun u => { u with pointMet := true }) (fun _ => rfl) s
  rw [meetPoint, ht]
  dsimp only
  rw [if_pos hown, evaluate, hmet]
  dsimp only
  have hd' : decisionOf (prof (modifyTrack k (fun u => { u with pointMet := true }) s))
      (modifyTrack k (fun u => { u with pointMet := true }) s).engine.mode t.accumulators = d := hd
  rw [hd', htwo, decide_eq_true (rfl : EvalCause.decisionPoint = .decisionPoint), Bool.true_and]
  refine congrArg (handOff k t.decision .decisionPoint) ?_
  by_cases hund : d = .undecided s.engine.mode
  · rw [if_pos ((decidedClass_isNone_of hkind).2 hund), pointTaken, if_pos hund]
    rfl
  · rw [if_neg fun h => hund ((decidedClass_isNone_of hkind).1 h), pointTaken, if_neg hund]
    rfl

/-! #### The examination (R136) -/

theorem handOff_of_none {k : Nat} {previous : Decision} {s : State} {t : Track} (ht : trackAt k s = some t)
    (hown : t.own = .none) : handOff k previous .decisionPoint s = examine k s := by
  rw [handOff, ht]
  dsimp only
  rw [hown]
  rfl

theorem recordOf_eq_none {t : Track} {s : State} (h : ∀ r ∈ s.claim.ownClaims, r.id ∉ idsOf t) : recordOf t s = none := by
  rw [recordOf, List.find?_eq_none]
  exact fun r hr hid => h r hr (hasId_iff.1 hid)

theorem recordOf_isSome {t : Track} {s : State} (h : ∃ r ∈ s.claim.ownClaims, r.id ∈ idsOf t) :
    (recordOf t s).isSome = true := by
  obtain ⟨r, hr, hid⟩ := h
  exact List.find?_isSome.2 ⟨r, hr, hasId_iff.2 hid⟩

theorem examine_of_record {k : Nat} {s : State} {t : Track} (ht : trackAt k s = some t)
    (h : (recordOf t s).isSome = true) : examine k s = s := by
  rw [examine, ht]
  dsimp only
  rw [h]
  rfl

theorem examine_of_undecided {k : Nat} {s : State} {t : Track} (ht : trackAt k s = some t)
    (h : decidedClass t.decision = none) : examine k s = s := by
  rw [examine, ht]
  dsimp only
  split
  · rfl
  · cases hd : t.decision with
    | stillOpen => rfl
    | undecided mode => rfl
    | decided c m mode =>
      rw [hd] at h
      cases h

theorem examine_of_decided {k : Nat} {s : State} {t : Track} {c : ClassCode} {m : Nat} {mode : Mode}
    (ht : trackAt k s = some t) (hr : recordOf t s = none) (heject : (prof s).eject = true)
    (hd : t.decision = .decided c m mode) :
    examine k s
      = if claimAllowed t s then if targeted t c s && t.owner.isNone then claimRequest t c s else s
        else if inClassSet (prof s).primary c || inClassSet (prof s).fallback c then
          { s with claim.withheld := bump s.claim.withheld }
        else s := by
  rw [examine, ht]
  dsimp only
  rw [hr, heject, hd]
  rfl

theorem claimAllowed_iff (t : Track) (s : State) :
    claimAllowed t s = true ↔ (t.cluster = false ∨ (prof s).clusterPolicy = .eject) ∧ s.accept.overrun = false
      ∧ s.link.state = .active ∧ s.port.station = .running := by
  simp [claimAllowed, and_assoc]

theorem targeted_iff (t : Track) (c : ClassCode) (s : State) :
    targeted t c s = true ↔ (prof s).primary.getLsbD c = true
      ∨ (prof s).fallback.getLsbD c = true ∧ (s.members.adopted.getLsbD c = true ∨ t.releasedBy ≠ []) := by
  simp [targeted, inClassSet]

/-! #### The request for an entry (R151, R155 to R158) -/

theorem supplyRequested_of_notStandby {s : State} (h : s.air.supply ≠ .standby) : supplyRequested s = s :=
  if_neg (by simp [h])

theorem supplyFeasible_iff (s : State) (x : Count) :
    supplyFeasible s x = true ↔ s.air.supply = .ready ∨ s.air.supply = .low
      ∨ (s.air.supply = .standby ∨ s.air.supply = .charging)
        ∧ ((10 * (prof s).chargeTime * s.belt.speed + 159) / 160 : Nat) ≤ (x - s.belt.count).toInt := by
  unfold supplyFeasible
  cases s.air.supply <;> simp [tenthsUp, signedDiff]

theorem requestEntry_refused {t : Track} {c : ClassCode} {s : State} {w : Window} {vs : ValveSet} {why : NotFired}
    (hair : s.air.supply ≠ .standby) (hw : w = windowOf (prof s) s.belt.speed t.d t.length c)
    (hvs : vs = valveSetOf s.valves (prof s).marginLat t.laneLo t.laneHi)
    (h : why = .slow ∧ s.belt.motion ≠ .running
      ∨ s.belt.motion = .running
        ∧ (why = .late ∧ reached s w.openCount = true
          ∨ reached s w.openCount = false
            ∧ (why = .noValve ∧ vs = 0
              ∨ vs ≠ 0 ∧ (why = .supply ∧ supplyFeasible s w.openCount = false
                ∨ supplyFeasible s w.openCount = true ∧ why = .plenum ∧ 48 ≤ s.sched.entries.length)))) :
    requestEntry t c s = (s, .refused why w.openCount (valveCount vs)) := by
  rw [requestEntry, supplyRequested_of_notStandby hair]
  dsimp only
  rw [← hw, ← hvs]
  obtain ⟨rfl, hmotion⟩ | ⟨hmotion, h⟩ := h
  · rw [if_pos hmotion]
  rw [if_neg (not_not_intro hmotion)]
  obtain ⟨rfl, hlate⟩ | ⟨hahead, h⟩ := h
  · rw [if_pos hlate]
  rw [if_neg (Bool.eq_false_iff.1 hahead)]
  obtain ⟨rfl, hnone⟩ | ⟨hsome, h⟩ := h
  · rw [if_pos hnone]
  rw [if_neg hsome]
  obtain ⟨rfl, hno⟩ | ⟨hyes, rfl, hfull⟩ := h
  · rw [hno]
    rfl
  · rw [hyes, if_pos (show Config.scheduleSize ≤ s.sched.entries.length from hfull)]
    rfl

/-- The entry of an admitted request (R149, R151). -/
def reservedEntry (t : Track) (c : ClassCode) (w : Window) (vs : ValveSet) (s : State) : Entry where
  track := t.key
  cls := c
  priority := (prof s).priority[c]
  state := .reserved
  openCount := w.openCount
  closeCount := w.closeCount
  pMin := w.pMin
  pMax := w.pMax
  valves := vs
  drive := 0
  trimmed := false
  clamped := w.clamped
  cut := false
  weak := false
  guard := none

theorem trimSet_of_fits {entries : List Entry} {w : Window} {limit core centre fuel : Nat} {vs : ValveSet}
    (h : peakLoad entries w vs ≤ limit) : trimSet entries w limit core centre fuel vs = vs := by
  cases fuel with
  | zero => rfl
  | succ n => exact if_pos (by simp [h])

theorem displacedBy_of_fits {entries candidates : List Entry} {w : Window} {limit : Nat} {vs : ValveSet}
    (h : peakLoad entries w vs ≤ limit) : displacedBy w vs limit candidates entries = [] := by
  cases candidates with
  | nil => rfl
  | cons c cs => exact if_pos h

theorem admitEntry_eq (e : Entry) (s : State) :
    admitEntry e s
      = { s with
          air := if s.sched.entries = [] then (stopStandbyTimer s).air else s.air
          sched.entries := insertBefore (fun y => isAfter y.openCount e.openCount) e s.sched.entries
          sched.admitted := bump s.sched.admitted
          sched.trimmed := bumpIf e.trimmed s.sched.trimmed } := by
  unfold admitEntry
  by_cases hempty : s.sched.entries = []
  · rw [if_pos (List.isEmpty_iff.2 hempty), if_pos hempty]
    rfl
  · rw [if_neg fun h => hempty (List.isEmpty_iff.1 h), if_neg hempty]

/-- A request whose set fits as it is: nothing is trimmed and nothing displaced (R157, R158). -/
theorem requestEntry_admitted {t : Track} {c : ClassCode} {s : State} {w : Window} {vs : ValveSet}
    (hair : s.air.supply ≠ .standby) (hw : w = windowOf (prof s) s.belt.speed t.d t.length c)
    (hvs : vs = valveSetOf s.valves (prof s).marginLat t.laneLo t.laneHi) (hmotion : s.belt.motion = .running)
    (hahead : reached s w.openCount = false) (hsome : vs ≠ 0) (hfeasible : supplyFeasible s w.openCount = true)
    (hroom : s.sched.entries.length < 48) (hfits : peakLoad s.sched.entries w vs ≤ (prof s).plenumLimit) :
    requestEntry t c s
      = (admitEntry (reservedEntry t c w vs s) { s with sched.lastPeak := peakLoad s.sched.entries w vs },
        .admitted w.openCount) := by
  have hrest : ¬ (prof s).plenumLimit
      < peakLoad (s.sched.entries.filter fun e => !displaceable w (prof s).priority[c] e) w vs :=
    Nat.not_lt.2 ((peakLoad_mono (fun e he => ⟨e, (List.mem_filter.1 he).1, .refl e⟩) w vs).trans hfits)
  rw [requestEntry, supplyRequested_of_notStandby hair]
  dsimp only
  rw [← hw, ← hvs, if_neg (not_not_intro hmotion), if_neg (Bool.eq_false_iff.1 hahead), if_neg hsome, hfeasible,
    if_neg (show ¬ (!true) = true by decide), if_neg (show ¬ Config.scheduleSize ≤ s.sched.entries.length from Nat.not_le.2 hroom),
    admission]
  dsimp only
  rw [trimSet_of_fits hfits, if_neg hrest, displacedBy_of_fits hfits, List.foldl_nil, decide_eq_false (not_not_intro rfl)]
  rfl

/-! #### The supply after a claim request (R181) -/

theorem foldl_displace_air (out : List Entry) (s : State) :
    SameCharge (out.foldl displace s) s ∧ (out.foldl displace s).air.supply = s.air.supply :=
  ⟨foldl_sameCharge (fun _ _ => (schedulerEnds_sameCharge _ _ _ _).trans {}) out s,
    (foldl_entries (fun (e : Entry) => e.track) displace (fun _ e => schedulerEnds_entries e _ _ _) out s).2⟩

/-- The supply, its charge timer and its faults are the same. -/
structure SameAir (t s : State) : Prop where
  charge : SameCharge t s := by exact {}
  supply : t.air.supply = s.air.supply := by rfl

theorem SameAir.trans {a b c : State} (h : SameAir a b) (k : SameAir b c) : SameAir a c :=
  ⟨h.charge.trans k.charge, h.supply.trans k.supply⟩

theorem admission_sameAir (t : Track) (c : ClassCode) (w : Window) (vs : ValveSet) (s : State) :
    SameAir (admission t c w vs s).1 s := by
  unfold admission
  dsimp only
  split
  · exact {}
  · rw [admitEntry_eq]
    obtain ⟨hcharge, hsupply⟩ := foldl_displace_air
      (displacedBy w (trimSet s.sched.entries w (prof s).plenumLimit (prof s).coreWidth ((t.laneLo + t.laneHi) / 2 / 4) 64 vs)
        (prof s).plenumLimit (removalOrder (s.sched.entries.filter (displaceable w (prof s).priority[c]))) s.sched.entries) s
    refine SameAir.trans ?_ ⟨hcharge, hsupply⟩
    dsimp only
    split <;> exact {}

theorem requestEntry_sameAir (t : Track) (c : ClassCode) (s : State) : SameAir (requestEntry t c s).1 (supplyRequested s) := by
  unfold requestEntry
  dsimp only
  repeat' split
  all_goals first | exact {} | exact admission_sameAir _ _ _ _ _

theorem dropEntry_sameAir (k : Nat) (r : Result) (s : State) : SameAir (dropEntry k r s) s := by
  refine ⟨?_, dropEntry_supply k r s⟩
  unfold dropEntry
  split
  · exact {}
  · exact leave_sameCharge _ _ (fun _ => {}) s

theorem claimOutcome_sameAir (h : Nat) (report : TxReport) (s : State) : SameAir (claimOutcome h report s).1 s := by
  unfold claimOutcome
  split
  · exact {}
  · split
    · split <;> exact {}
    · dsimp only
      split
      · exact {}
      · exact {}
      · exact (dropEntry_sameAir _ _ _).trans {}

theorem addClaim_sameAir (t : Track) (c : ClassCode) (x : Count) (s : State) : SameAir (addClaim t c x s) s := by
  unfold addClaim
  dsimp only
  split
  · exact dropEntry_sameAir _ _ _
  · rename_i hadd
    have hnoticed := (slotAdd_noticed hadd).sameRecords
    have hsame : SameAir _ s := ⟨hnoticed.charge, hnoticed.supply⟩
    split
    · exact (claimOutcome_sameAir _ _ _).trans (SameAir.trans {} hsame)
    · exact SameAir.trans {} hsame

theorem claimRequest_sameAir (t : Track) (c : ClassCode) (s : State) : SameAir (claimRequest t c s) (supplyRequested s) := by
  have hrequest := requestEntry_sameAir t c s
  unfold claimRequest
  split <;> rename_i heq <;> rw [heq] at hrequest
  · refine SameAir.trans ?_ hrequest
    unfold putOutcome
    split <;> exact {}
  · exact (addClaim_sameAir _ _ _ _).trans hrequest

/-- A request in STANDBY starts the charging, which an active pressure-ok ends at once (R181). -/
theorem supplyRequested_of_standby {s : State} (heject : (prof s).eject = true) (h : s.air.supply = .standby) :
    (supplyRequested s).air.supply = (if s.air.pressureOk then .ready else .charging)
      ∧ (s.air.pressureOk = false → (supplyRequested s).air.chargeTimer = some (s.clock + 20 * (prof s).chargeTime)) := by
  have hspine := supplyTo_spine .charging s
  have hprof : prof (supplyTo .charging s) = prof s := prof_of_spine hspine
  have hclock := clock_of_spine hspine
  have hpressure : (supplyTo .charging s).air.pressureOk = s.air.pressureOk := by
    have hok := congrArg (fun a : State => a.air.pressureOk) hspine
    exact hok
  rw [supplyRequested, heject, h]
  dsimp only
  rw [if_pos (by decide), hpressure]
  cases s.air.pressureOk with
  | true =>
    refine ⟨?_, nofun⟩
    rw [if_pos rfl, if_pos rfl, chargedUp_eq (by exact supplyTo_supply _ _)]
  | false =>
    rw [if_neg Bool.false_ne_true, if_neg Bool.false_ne_true]
    refine ⟨supplyTo_supply _ _, fun _ => ?_⟩
    dsimp only
    rw [hclock]
    refine congrArg some (congrArg (s.clock + ·) ?_)
    change 2 * (prof s).chargeTime * 10 = _
    omega

end Sys2Proof.Machine
end

/-! ### A decision point reached (R63 to R66, R71, R136, R137, R140) -/

section
namespace Sys2Proof.Machine

set_option Elab.async false

/-- No two tracks of a lawful table share an ID (R32). -/
theorem unnamed_of_split {before after : List Track} {t : Track} {id : PieceId}
    (h : ((before ++ t :: after).flatMap idsOf).Nodup) (hid : id ∈ idsOf t) :
    (∀ v ∈ before, id ∉ idsOf v) ∧ ∀ v ∈ after, id ∉ idsOf v := by
  rw [List.flatMap_append, List.flatMap_cons, List.nodup_append, List.nodup_append] at h
  obtain ⟨-, ⟨-, -, htail⟩, hhead⟩ := h
  refine ⟨fun v hv hmem => ?_, fun v hv hmem => ?_⟩
  · exact hhead id (List.mem_flatMap.2 ⟨v, hv, hmem⟩) id (List.mem_append_left _ hid) rfl
  · exact htail id hid id (List.mem_flatMap.2 ⟨v, hv, hmem⟩) rfl

/-- An ID names the track that answers to it (R33). -/
theorem trackOf_of_mem {s : State} {t : Track} {id : PieceId} (hs : (s.engine.tracks.flatMap idsOf).Nodup)
    (ht : t ∈ s.engine.tracks) (hid : id ∈ idsOf t) : trackOf id s = some t := by
  obtain ⟨before, after, hsplit⟩ := List.append_of_mem ht
  rw [hsplit] at hs
  have hnone : before.find? (hasId id) = none :=
    List.find?_eq_none.2 fun v hv hmem => (unnamed_of_split hs hid).1 v hv (hasId_iff.1 hmem)
  rw [trackOf, hsplit, List.find?_append, hnone, Option.none_or, List.find?_cons_of_pos (hasId_iff.2 hid)]

/-! #### The moment -/

/-- The decision point of a track of a bar at work is reached, with the decision its accumulators give (R62, R63, R66). -/
structure PointReached (s : State) (id : PieceId) (t : Track) (c : ClassCode) (m : Nat) (d : Decision) : Prop where
  bar : BarInStep s
  lawful : TableLawful s
  named : trackOf id s = some t
  station : s.port.station = .running ∨ s.port.station = .halting
  eject : (prof s).eject = true
  due : reached s (decisionPoint s t) = true
  decides : decisionOf (prof s) s.engine.mode t.accumulators = d
  kind : d = .decided c m s.engine.mode ∨ d = .undecided s.engine.mode

/-- The track with its mark and its decision. -/
def decidedTrack (d : Decision) (t : Track) : Track := { t with pointMet := true, decision := d }

section
variable {s : State} {id : PieceId} {t : Track} {c : ClassCode} {m : Nat} {d : Decision}

theorem PointReached.live (h : PointReached s id t c m d) : trackAt t.key s = some t :=
  trackAt_of_keysFresh h.lawful.keys (List.mem_of_find?_eq_some h.named)

theorem PointReached.decided (h : PointReached s id t c m d) :
    trackAt t.key (pointTaken t.key d s) = some (decidedTrack d t) :=
  trackAt_modifyTrack (f := decidedTrack d) (fun _ => rfl) h.live

theorem PointReached.exec_met (h : PointReached s id t c m d) (hmet : t.pointMet = true) :
    exec (.decisionPointReached id) s = .next s := by
  change execDecisionPointReached id s = _
  rw [execDecisionPointReached, h.named]
  exact if_neg (by simp [pointDue, hmet])

theorem PointReached.exec_due (h : PointReached s id t c m d) (hmet : t.pointMet = false) :
    exec (.decisionPointReached id) s = .next (syncBar (meetPoint t.key s)) := by
  change execDecisionPointReached id s = _
  rw [execDecisionPointReached, h.named]
  exact if_pos (by simp [pointDue, hmet, (working_iff s).2 h.station, h.eject, h.due])

theorem PointReached.exec_closed (h : PointReached s id t c m d) (hmet : t.pointMet = false)
    (hown : t.own = .owned ∨ t.own = .lost ∨ t.own = .releasedBySelf) :
    exec (.decisionPointReached id) s = .next (modifyTrack t.key (fun u => { u with pointMet := true }) s) := by
  have hno : mayEvaluate t = false := by rcases hown with h | h | h <;> simp [mayEvaluate, h]
  rw [h.exec_due hmet, meetPoint_of_closed h.live hno]
  exact congrArg _ (syncBar_of_sameBar h.bar {})

theorem PointReached.exec_none (h : PointReached s id t c m d) (hmet : t.pointMet = false) (hown : t.own = .none) :
    exec (.decisionPointReached id) s = .next (syncBar (examine t.key (pointTaken t.key d s))) := by
  rw [h.exec_due hmet, meetPoint_of_open h.live (by simp [mayEvaluate, hown]) h.decides h.kind,
    handOff_of_none h.decided hown]

theorem PointReached.exec_pending (h : PointReached s id t c m d) (hmet : t.pointMet = false) (hown : t.own = .pending) :
    exec (.decisionPointReached id) s
      = .next (syncBar (handOff t.key t.decision .decisionPoint (pointTaken t.key d s))) := by
  rw [h.exec_due hmet, meetPoint_of_open h.live (by simp [mayEvaluate, hown]) h.decides h.kind]

/-- An examination that changes nothing leaves the evaluated state. -/
theorem PointReached.exec_base (h : PointReached s id t c m d) (hmet : t.pointMet = false) (hown : t.own = .none)
    (hkept : examine t.key (pointTaken t.key d s) = pointTaken t.key d s) :
    exec (.decisionPointReached id) s = .next (pointTaken t.key d s) := by
  rw [h.exec_none hmet hown, hkept]
  exact congrArg _ (syncBar_of_sameBar h.bar {})

/-! #### The examination that follows -/

/-- What the station and the piece ask of an eligible claim (R136). -/
structure Eligible (s : State) (t : Track) (c : ClassCode) (m : Nat) (d : Decision) : Prop where
  decided : d = .decided c m s.engine.mode
  noRecord : ∀ r ∈ s.claim.ownClaims, r.id ∉ idsOf t
  noOwner : t.owner = none
  target : (prof s).primary.getLsbD c = true
    ∨ (prof s).fallback.getLsbD c = true ∧ (s.members.adopted.getLsbD c = true ∨ t.releasedBy ≠ [])
  cluster : t.cluster = false ∨ (prof s).clusterPolicy = .eject
  overrun : s.accept.overrun = false
  link : s.link.state = .active
  station : s.port.station = .running

theorem PointReached.examine_decided (h : PointReached s id t c m d) (hd : d = .decided c m s.engine.mode)
    (hno : ∀ r ∈ s.claim.ownClaims, r.id ∉ idsOf t) :
    examine t.key (pointTaken t.key d s)
      = if claimAllowed t s then
          if targeted t c s && t.owner.isNone then claimRequest (decidedTrack d t) c (pointTaken t.key d s)
          else pointTaken t.key d s
        else if inClassSet (prof s).primary c || inClassSet (prof s).fallback c then
          { pointTaken t.key d s with claim.withheld := bump s.claim.withheld }
        else pointTaken t.key d s :=
  examine_of_decided h.decided (recordOf_eq_none (s := pointTaken t.key d s) (t := decidedTrack d t) hno) h.eject hd

theorem PointReached.exec_eligible (h : PointReached s id t c m d) (hmet : t.pointMet = false) (hown : t.own = .none)
    (he : Eligible s t c m d) :
    exec (.decisionPointReached id) s
      = .next (syncBar (claimRequest (decidedTrack d t) c (pointTaken t.key d s))) := by
  have hallowed := (claimAllowed_iff t s).2 ⟨he.cluster, he.overrun, he.link, he.station⟩
  have htarget := (targeted_iff t c s).2 he.target
  rw [h.exec_none hmet hown, h.examine_decided he.decided he.noRecord, if_pos hallowed, htarget, he.noOwner]
  rfl

theorem PointReached.exec_uneligible (h : PointReached s id t c m d) (hmet : t.pointMet = false) (hown : t.own = .none)
    (hnot : (∃ r ∈ s.claim.ownClaims, r.id ∈ idsOf t) ∨ d = .undecided s.engine.mode
      ∨ ((prof s).primary.getLsbD c = false ∧ (prof s).fallback.getLsbD c = false)) :
    exec (.decisionPointReached id) s = .next (pointTaken t.key d s) := by
  refine h.exec_base hmet hown ?_
  by_cases hrecord : ∃ r ∈ s.claim.ownClaims, r.id ∈ idsOf t
  · exact examine_of_record h.decided (recordOf_isSome (s := pointTaken t.key d s) (t := decidedTrack d t) hrecord)
  rcases h.kind with hd | hd
  · obtain ⟨hprimary, hfallback⟩ := (hnot.resolve_left hrecord).resolve_left fun hu => nomatch hd.symm.trans hu
    have hno : ∀ r ∈ s.claim.ownClaims, r.id ∉ idsOf t := fun r hr hid => hrecord ⟨r, hr, hid⟩
    have htarget : targeted t c s = false := by
      rw [← Bool.not_eq_true, targeted_iff, hprimary, hfallback]
      simp
    rw [h.examine_decided hd hno, htarget, inClassSet, inClassSet, hprimary, hfallback]
    simp
  · exact examine_of_undecided h.decided (by rw [decidedTrack, hd]; rfl)

theorem PointReached.exec_withheld (h : PointReached s id t c m d) (hmet : t.pointMet = false) (hown : t.own = .none)
    (hno : ∀ r ∈ s.claim.ownClaims, r.id ∉ idsOf t) (hd : d = .decided c m s.engine.mode)
    (hset : (prof s).primary.getLsbD c = true ∨ (prof s).fallback.getLsbD c = true)
    (hwhy : (t.cluster = true ∧ (prof s).clusterPolicy = .skip) ∨ s.accept.overrun = true ∨ s.link.state ≠ .active
      ∨ s.port.station = .halting) :
    exec (.decisionPointReached id) s
      = .next { pointTaken t.key d s with claim.withheld := bump s.claim.withheld } := by
  have hno' : ¬ claimAllowed t s = true := by
    rw [claimAllowed_iff]
    rintro ⟨hcluster, hoverrun, hlink, hstation⟩
    rcases hwhy with ⟨h1, h2⟩ | h1 | h1 | h1
    · rw [h1, h2] at hcluster
      rcases hcluster with h | h <;> exact nomatch h
    · exact nomatch hoverrun.symm.trans h1
    · exact h1 hlink
    · exact nomatch hstation.symm.trans h1
  have hin : (inClassSet (prof s).primary c || inClassSet (prof s).fallback c) = true := by
    rw [Bool.or_eq_true]
    exact hset
  rw [h.exec_none hmet hown, h.examine_decided hd hno, if_neg hno', if_pos hin]
  exact congrArg _ (syncBar_of_sameBar h.bar {})

theorem PointReached.exec_untargeted (h : PointReached s id t c m d) (hmet : t.pointMet = false) (hown : t.own = .none)
    (hno : ∀ r ∈ s.claim.ownClaims, r.id ∉ idsOf t) (hd : d = .decided c m s.engine.mode)
    (hlink : s.link.state = .active) (hstation : s.port.station = .running) (hoverrun : s.accept.overrun = false)
    (hcluster : t.cluster = false ∨ (prof s).clusterPolicy = .eject)
    (hwhy : t.owner ≠ none
      ∨ (prof s).primary.getLsbD c = false ∧ s.members.adopted.getLsbD c = false ∧ t.releasedBy = []) :
    exec (.decisionPointReached id) s = .next (pointTaken t.key d s) := by
  have hallowed := (claimAllowed_iff t s).2 ⟨hcluster, hoverrun, hlink, hstation⟩
  refine h.exec_base hmet hown ?_
  rw [h.examine_decided hd hno, if_pos hallowed]
  refine if_neg fun hboth => ?_
  obtain ⟨htarget, howner⟩ := Bool.and_eq_true_iff.1 hboth
  rcases hwhy with hsome | ⟨h1, h2, h3⟩
  · exact hsome (Option.isNone_iff_eq_none.1 howner)
  · rw [targeted_iff, h1, h2, h3] at htarget
    simp at htarget

/-! #### The request of an eligible track -/

theorem PointReached.exec_refused (h : PointReached s id t c m d) (hmet : t.pointMet = false) (hown : t.own = .none)
    (he : Eligible s t c m d) {w : Window} {vs : ValveSet} {why : NotFired} (hroom : s.port.outcomes.length < 32)
    (hrequest : requestEntry (decidedTrack d t) c (pointTaken t.key d s)
      = (pointTaken t.key d s, .refused why w.openCount (valveCount vs))) :
    exec (.decisionPointReached id) s
      = .next
          { pointTaken t.key d s with
            port.outcomes :=
              s.port.outcomes
                ++ [{ id := t.primary
                      cls := c
                      mode := s.engine.mode
                      decisionMode := s.engine.mode
                      result := .notFired why
                      trimmed := false
                      clamped := false
                      cut := false
                      weak := false
                      lateEvidence := false
                      valveCount := valveCount vs
                      openCount := w.openCount
                      margin := m }] } := by
  have hd := he.decided
  rw [h.exec_eligible hmet hown he, claimRequest, hrequest]
  dsimp only
  rw [putOutcome_of_room _ (by exact hroom), syncBar_of_sameBar h.bar {}, refusalRecord, decidedTrack, hd]
  rfl

theorem addClaim_of_room {u : Track} {x : Count} {a : State} (hlink : acceptsAdds a = true)
    (hroom : a.link.slots.length < 8) (hahead : reached a (x - counts (prof a).claimLead) = false) :
    addClaim u c x a
      = setOwn u.key .pending
          { a with
            link.slots :=
              a.link.slots ++ [freshSlot (.claim u.primary c) (some (x - counts (prof a).claimLead)) a.link.nextHandle]
            link.nextHandle := a.link.nextHandle + 1
            claim.ownClaims :=
              a.claim.ownClaims
                ++ [{ id := u.primary
                      cls := c
                      handle := a.link.nextHandle
                      outcomeTaken := false
                      met := false
                      metFirst := false
                      giveUp := none
                      orphan := false }] } := by
  rw [addClaim, slotAdd_of_room hlink hroom]
  exact if_neg (Bool.eq_false_iff.1 hahead)

/-- A new RESERVED entry drives nothing (R163). -/
theorem driveOf_of_reserved {s u : State} {e : Entry} {later : Entry → Bool} (he : e.state = .reserved)
    (h : u.sched.entries = insertBefore later e s.sched.entries) : driveOf u = driveOf s := by
  refine BitVec.eq_of_getLsbD_eq fun v _ => Bool.eq_iff_iff.2 ?_
  rw [getLsbD_driveOf, getLsbD_driveOf, h]
  simp only [mem_insertBefore]
  constructor
  · rintro ⟨x, rfl | hx, ho, hv⟩
    · exact nomatch he.symm.trans ho
    · exact ⟨x, hx, ho, hv⟩
  · exact fun ⟨x, hx, hov⟩ => ⟨x, .inr hx, hov⟩

end

end Sys2Proof.Machine
end

/-! ### The claim a decision point makes or gives up (R137, R140, R142) -/

section
namespace Sys2Proof.Machine

set_option Elab.async false

section
variable {s : State} {id : PieceId} {t : Track} {c : ClassCode} {m : Nat} {d : Decision}

/-- The state after an admitted request whose CLAIM has found a slot (R137, R151, R182). -/
def claimed (t : Track) (c : ClassCode) (d : Decision) (w : Window) (vs : ValveSet) (s : State) : State :=
  { pointTaken t.key d s with
    engine.tracks :=
      s.engine.tracks.map fun u => if u.key = t.key then { u with pointMet := true, decision := d, own := .pending } else u
    sched.lastPeak := peakLoad s.sched.entries w vs
    sched.admitted := bump s.sched.admitted
    sched.entries := insertBefore (fun y => isAfter y.openCount w.openCount) (reservedEntry t c w vs s) s.sched.entries
    air := if s.sched.entries = [] then (stopStandbyTimer s).air else s.air
    link.nextHandle := s.link.nextHandle + 1
    link.slots :=
      s.link.slots
        ++ [freshSlot (.claim t.primary c) (some (w.openCount - counts (prof s).claimLead)) s.link.nextHandle]
    claim.ownClaims :=
      s.claim.ownClaims
        ++ [{ id := t.primary
              cls := c
              handle := s.link.nextHandle
              outcomeTaken := false
              met := false
              metFirst := false
              giveUp := none
              orphan := false }] }

theorem PointReached.exec_claimed (h : PointReached s id t c m d) (hmet : t.pointMet = false) (hown : t.own = .none)
    (he : Eligible s t c m d) {w : Window} {vs : ValveSet} (hair : s.air.supply ≠ .standby)
    (hw : w = windowOf (prof s) s.belt.speed t.d t.length c)
    (hvs : vs = valveSetOf s.valves (prof s).marginLat t.laneLo t.laneHi) (hmotion : s.belt.motion = .running)
    (hahead : reached s w.openCount = false) (hsome : vs ≠ 0) (hfeasible : supplyFeasible s w.openCount = true)
    (hroom : s.sched.entries.length < 48) (hfits : peakLoad s.sched.entries w vs ≤ (prof s).plenumLimit)
    (hslots : s.link.slots.length < 8) (hclaim : reached s (w.openCount - counts (prof s).claimLead) = false) :
    exec (.decisionPointReached id) s = .next (claimed t c d w vs s) := by
  have hrequest := requestEntry_admitted (t := decidedTrack d t) (c := c) (s := pointTaken t.key d s) (w := w) (vs := vs)
    hair hw hvs hmotion hahead hsome hfeasible hroom hfits
  rw [admitEntry_eq] at hrequest
  have htracks : (s.engine.tracks.map fun u => if u.key = t.key then decidedTrack d u else u).map
        (fun u => if u.key = t.key then { u with own := .pending } else u)
      = s.engine.tracks.map fun u => if u.key = t.key then { u with pointMet := true, decision := d, own := .pending } else u :=
    congrArg (fun a : State => a.engine.tracks)
      (modifyTrack_modifyTrack (k := t.key) (f := decidedTrack d) (g := fun u => { u with own := .pending }) (fun _ => rfl) s)
  have hstate : claimRequest (decidedTrack d t) c (pointTaken t.key d s) = claimed t c d w vs s := by
    rw [claimRequest, hrequest]
    dsimp only
    rw [addClaim_of_room (by simp [acceptsAdds, pointTaken, he.link]) (by exact hslots) (by exact hclaim), claimed, ← htracks]
    rfl
  have hbar : BarInStep (claimed t c d w vs s) := by
    refine ⟨h.bar.1.trans (driveOf_of_reserved (e := reservedEntry t c w vs s) rfl rfl).symm, h.bar.2.trans (pilotOpen_congr ?_)⟩
    rw [claimed]
    dsimp only
    split <;> rfl
  rw [h.exec_eligible hmet hown he, hstate, syncBar_of_inStep hbar]

/-! #### A claim given up as RECLASSED (R140, R142) -/

theorem recordOf_of_split {older newer : List OwnClaim} {r : OwnClaim}
    (hrecords : s.claim.ownClaims = older ++ r :: newer) (hbefore : ∀ y ∈ older, y.id ∉ idsOf t) (hr : r.id ∈ idsOf t) :
    recordOf t s = some r := by
  have hnone : older.find? (fun y => hasId y.id t) = none :=
    List.find?_eq_none.2 fun y hy hmem => hbefore y hy (hasId_iff.1 hmem)
  rw [recordOf, hrecords, List.find?_append, hnone, Option.none_or]
  exact List.find?_cons_of_pos (hasId_iff.2 hr)

theorem handOff_of_pending {k : Nat} {previous : Decision} {a : State} {u : Track} {r : OwnClaim}
    (hu : trackAt k a = some u) (hown : u.own = .pending) (hr : recordOf u a = some r) :
    handOff k previous .decisionPoint a
      = if decidedClass u.decision = some r.cls then a
        else
          examineIf (cancelSlot r.handle (dropEntry k .reclassed
            (modifyRecord r.handle (fun x => { x with giveUp := some .reclassed }) (setOwn k .none a)))) := by
  rw [handOff, hu]
  dsimp only
  rw [hown]
  dsimp only
  rw [hr]

/-- The drop of an entry that is not OPEN, its track holding no retirement: its record, and the supply's timers (R166). -/
theorem dropEntry_of_unopened {k : Nat} {why : Result} {a : State} {u : Track} {e : Entry} (hu : trackAt k a = some u)
    (hheld : u.heldRetirement = false) (he : a.sched.entries.find? (fun y => y.track = k) = some e) (hst : e.state ≠ .opened)
    (hroom : a.port.outcomes.length < 32) :
    ∃ air, dropEntry k why a
      = { a with
          sched.entries := a.sched.entries.filter fun y => y.track ≠ k
          port.outcomes := a.port.outcomes ++ [entryRecord e u why a]
          air := air } := by
  have hkey : e.track = k := by simpa using List.find?_some he
  subst hkey
  have hentry : entryAt e.track a = some e := he
  have hcleared (b : State) (hb : trackAt e.track b = some u) : linkCleared e.track b = scheduleEmptied b := by
    rw [linkCleared, hb]
    simp only [hheld, Bool.false_eq_true, if_false]
  obtain ⟨air, hair, -⟩ := scheduleEmptied_air
    { removeEntry e.track a with port.outcomes := a.port.outcomes ++ [entryRecord e u why a] }
  refine ⟨air, ?_⟩
  rw [dropEntry, hentry]
  dsimp only
  rw [leave, hu]
  dsimp only [id]
  rw [putOutcome_of_room _ (by exact hroom), if_neg hst, hcleared _ (by exact hu)]
  exact hair

/-- The state once a pending claim has been given up as RECLASSED and its entry has left, the slot still held. -/
def reclassed (t : Track) (d : Decision) (r : OwnClaim) (e : Entry) (air : Air) (s : State) : State :=
  { pointTaken t.key d s with
    engine.tracks :=
      s.engine.tracks.map fun v => if v.key = t.key then { v with pointMet := true, decision := d, own := .none } else v
    claim.ownClaims := s.claim.ownClaims.map fun x => if x.handle = r.handle then { x with giveUp := some .reclassed } else x
    sched.entries := s.sched.entries.filter fun y => y.track ≠ t.key
    port.outcomes :=
      s.port.outcomes ++ [entryRecord e { t with pointMet := true, decision := d, own := .none } .reclassed s]
    air := air }

theorem PointReached.exec_reclassed (h : PointReached s id t c m d) (hmet : t.pointMet = false) (hown : t.own = .pending)
    {older newer : List OwnClaim} {r : OwnClaim} {e : Entry} (hrecords : s.claim.ownClaims = older ++ r :: newer)
    (hbefore : ∀ y ∈ older, y.id ∉ idsOf t) (hr : r.id ∈ idsOf t) (hother : decidedClass d ≠ some r.cls)
    (hheld : t.heldRetirement = false) (he : s.sched.entries.find? (fun y => y.track = t.key) = some e)
    (hst : e.state = .reserved) (hroom : s.port.outcomes.length < 32) :
    ∃ air, exec (.decisionPointReached id) s
      = .next (syncBar (examineIf (cancelSlot r.handle (reclassed t d r e air s)))) := by
  have htracks : (s.engine.tracks.map fun u => if u.key = t.key then decidedTrack d u else u).map
        (fun u => if u.key = t.key then { u with own := .none } else u)
      = s.engine.tracks.map fun u => if u.key = t.key then { u with pointMet := true, decision := d, own := .none } else u :=
    congrArg (fun a : State => a.engine.tracks)
      (modifyTrack_modifyTrack (k := t.key) (f := decidedTrack d) (g := fun u => { u with own := .none }) (fun _ => rfl) s)
  obtain ⟨a, ha⟩ : ∃ a, a = modifyRecord r.handle (fun x => { x with giveUp := some .reclassed })
      (setOwn t.key .none (pointTaken t.key d s)) := ⟨_, rfl⟩
  have hlive : trackAt t.key a = some { t with pointMet := true, decision := d, own := .none } := by
    rw [ha]
    exact trackAt_modifyTrack (f := fun u => { u with own := .none }) (fun _ => rfl) h.decided
  obtain ⟨air, hair⟩ := dropEntry_of_unopened (why := .reclassed) (e := e) hlive hheld (by rw [ha]; exact he)
    (by rw [hst]; nofun) (by rw [ha]; exact hroom)
  refine ⟨air, ?_⟩
  have hpending : (decidedTrack d t).own = .pending := hown
  rw [h.exec_pending hmet hown, handOff_of_pending h.decided hpending (by exact recordOf_of_split hrecords hbefore hr), ← ha,
    if_neg (by exact hother), hair, ha, reclassed, ← htracks]
  rfl

/-- What every way of giving the claim up leaves (R140, R166). -/
theorem reclassed_leaves (t : Track) (d : Decision) (r : OwnClaim) (e : Entry) (air : Air) (s : State) :
    let u := reclassed t d r e air s
    let rec' := entryRecord e { t with pointMet := true, decision := d, own := .none } .reclassed s
    u.sched.entries = s.sched.entries.filter (fun e => e.track ≠ t.key)
      ∧ u.port.outcomes = s.port.outcomes ++ [rec'] ∧ rec'.id = t.primary ∧ rec'.result = .reclassed
      ∧ u.engine
        = { (pointTaken t.key d s).engine with
            tracks :=
              s.engine.tracks.map fun v =>
                if v.key = t.key then { v with pointMet := true, decision := d, own := .none } else v }
      ∧ u.belt = s.belt ∧ u.accept = s.accept ∧ u.members = s.members ∧ u.valves = s.valves :=
  ⟨rfl, rfl, rfl, rfl, rfl, rfl, rfl, rfl, rfl⟩

/-- The given-up record stands alone under its handle. -/
theorem reclassed_records {older newer : List OwnClaim} {r : OwnClaim} (halone : ∀ y ∈ older ++ newer, y.handle ≠ r.handle) :
    (older ++ r :: newer).map (fun x => if x.handle = r.handle then { x with giveUp := some .reclassed } else x)
      = older ++ { r with giveUp := some .reclassed } :: newer := by
  have hkept {l : List OwnClaim} (hl : ∀ y ∈ l, y.handle ≠ r.handle) :
      l.map (fun x => if x.handle = r.handle then { x with giveUp := some .reclassed } else x) = l := by
    refine (List.map_congr_left fun y hy => if_neg (hl y hy)).trans (List.map_id _)
  rw [List.map_append, List.map_cons, if_pos rfl, hkept fun y hy => halone y (List.mem_append_left _ hy),
    hkept fun y hy => halone y (List.mem_append_right _ hy)]

/-- The outcome of a CLAIM that never reached the line, its record given up (R142). -/
theorem claimOutcome_of_givenUpRecord {k : Nat} {report : TxReport} {a : State} {r : OwnClaim} {why : GiveUp}
    (hr : a.claim.ownClaims.find? (fun x => x.handle = k) = some r) (hline : reachedLine report.outcome = false)
    (hwhy : r.giveUp = some why) :
    claimOutcome k report a = (removeRecord k a, reexamineAfter r (removeRecord k a)) := by
  rw [claimOutcome, hr]
  dsimp only
  rw [hline, if_neg Bool.false_ne_true, hwhy]

/-- A re-examination of an undecided track changes nothing (R136, R142). -/
theorem examineIf_of_undecided {a : State} {r : OwnClaim} {u : Track}
    (hr : trackOf r.id a = some u) (hu : trackAt u.key a = some u) (hund : decidedClass u.decision = none) :
    examineIf (a, reexamineAfter r a) = a := by
  have hname : reexamineAfter r a = none ∨ reexamineAfter r a = some u.key := by
    unfold reexamineAfter
    rw [hr]
    repeat' split
    all_goals simp_all
  rcases hname with h | h
  · rw [h, examineIf_none]
  · rw [h]
    exact examine_of_undecided hu hund

/-- The slot is still sending: its cancel waits (R95). -/
theorem PointReached.exec_reclassed_sending (h : PointReached s id t c m d) (hmet : t.pointMet = false)
    (hown : t.own = .pending) {older newer : List OwnClaim} {r : OwnClaim} {e : Entry} {x : Slot}
    (hrecords : s.claim.ownClaims = older ++ r :: newer) (hbefore : ∀ y ∈ older, y.id ∉ idsOf t) (hr : r.id ∈ idsOf t)
    (hother : decidedClass d ≠ some r.cls) (hheld : t.heldRetirement = false)
    (he : s.sched.entries.find? (fun y => y.track = t.key) = some e) (hst : e.state = .reserved)
    (hroom : s.port.outcomes.length < 32) (hx : s.link.slots.find? (fun y => y.handle = r.handle) = some x)
    (hsending : x.status = .sending) :
    ∃ air, exec (.decisionPointReached id) s
      = .next (syncBar (modifySlot r.handle (fun y => { y with status := .cancelPending }) (reclassed t d r e air s))) := by
  obtain ⟨air, hexec⟩ := h.exec_reclassed hmet hown hrecords hbefore hr hother hheld he hst hroom
  refine ⟨air, hexec.trans ?_⟩
  rw [cancelSlot_of_sending (by exact hx) hsending, examineIf_none]

/-- The slot is PENDING: it is freed, the record goes, and the undecided track is not examined again (R95, R142). -/
theorem PointReached.exec_reclassed_pending (h : PointReached s id t c m d) (hmet : t.pointMet = false)
    (hown : t.own = .pending) {older newer : List OwnClaim} {r : OwnClaim} {e : Entry} {x : Slot} {i : PieceId} {k : ClassCode}
    (hrecords : s.claim.ownClaims = older ++ r :: newer) (hbefore : ∀ y ∈ older, y.id ∉ idsOf t) (hr : r.id ∈ idsOf t)
    (hund : decidedClass d = none) (halone : ∀ y ∈ older ++ newer, y.handle ≠ r.handle) (hheld : t.heldRetirement = false)
    (he : s.sched.entries.find? (fun y => y.track = t.key) = some e) (hst : e.state = .reserved)
    (hroom : s.port.outcomes.length < 32) (hx : s.link.slots.find? (fun y => y.handle = r.handle) = some x)
    (hpending : x.status = .pending) (hclaim : x.notice = .claim i k) :
    ∃ air, exec (.decisionPointReached id) s
      = .next (syncBar (removeRecord r.handle (removeSlot r.handle (reclassed t d r e air s)))) := by
  obtain ⟨air, hexec⟩ := h.exec_reclassed hmet hown hrecords hbefore hr (by rw [hund]; nofun) hheld he hst hroom
  refine ⟨air, hexec.trans ?_⟩
  have hhandle : x.handle = r.handle := by simpa using List.find?_some hx
  obtain ⟨a, ha⟩ : ∃ a, a = removeSlot r.handle (reclassed t d r e air s) := ⟨_, rfl⟩
  have hlist : a.claim.ownClaims = older ++ { r with giveUp := some .reclassed } :: newer := by
    rw [← reclassed_records halone, ← hrecords, ha]
    rfl
  have hfound : a.claim.ownClaims.find? (fun y => y.handle = r.handle) = some { r with giveUp := some .reclassed } := by
    have hnone : older.find? (fun y => y.handle = r.handle) = none :=
      List.find?_eq_none.2 fun y hy => by simpa using halone y (List.mem_append_left _ hy)
    rw [hlist, List.find?_append, hnone, Option.none_or]
    exact List.find?_cons_of_pos (by simp)
  have hend : endSlot x (.cancelled .requested) (reclassed t d r e air s)
      = claimOutcome r.handle ⟨.cancelled .requested, x.latch⟩ a := by
    rw [endSlot, hclaim, ha, hhandle]
  have htrack : trackOf r.id (removeRecord r.handle a) = some { t with pointMet := true, decision := d, own := .none } := by
    have hnamed := trackOf_of_mem h.lawful.ids (List.mem_of_find?_eq_some h.named) hr
    have hkept := find_map_of_fixed (p := hasId r.id)
      (f := fun v : Track => if v.key = t.key then { v with pointMet := true, decision := d, own := .none } else v)
      (fun u => by by_cases hu : u.key = t.key <;> simp [hu, hasId]) hnamed
    rw [if_pos rfl] at hkept
    rw [ha]
    exact hkept
  have hlive : trackAt t.key (removeRecord r.handle a) = some { t with pointMet := true, decision := d, own := .none } := by
    have hkept := find_map_of_fixed (p := fun u : Track => decide (u.key = t.key))
      (f := fun v : Track => if v.key = t.key then { v with pointMet := true, decision := d, own := .none } else v)
      (fun u => by by_cases hu : u.key = t.key <;> simp [hu]) h.live
    rw [if_pos rfl] at hkept
    rw [ha]
    exact hkept
  rw [cancelSlot_of_pending (by exact hx) hpending, hend, claimOutcome_of_givenUpRecord hfound rfl rfl,
    examineIf_of_undecided (r := { r with giveUp := some .reclassed }) htrack hlive hund, ha]

end

/-- Settles O13. -/
theorem decisionPointDecidesAndClaims : Obligations.DecisionPointDecidesAndClaims := by
  intro s base id t c m d w vs eligible feasible dropped hbar hlawful hnamed hstation heject hdue hc hm hd hbase hw hvs
    heligible hfeasible hdropped
  have hbase' : base = pointTaken t.key d s := hbase
  have hkind : d = .decided c m s.engine.mode ∨ d = .undecided s.engine.mode := by
    rw [hd]
    split
    · exact .inl rfl
    · exact .inr rfl
  have h : PointReached s id t c m d :=
    ⟨hbar, hlawful, hnamed, hstation, heject, hdue, (decisionOf_eq hc hm).trans hd.symm, hkind⟩
  have hel (he : eligible) : Eligible s t c m d := by
    rw [heligible] at he
    obtain ⟨h1, h2, h3, h4, h5, h6, h7, h8⟩ := he
    exact ⟨h1, h2, h3, h4, h5, h6, h7, h8⟩
  have hfeas (hair : s.air.supply ≠ .standby) : supplyFeasible s w.openCount = true ↔ feasible := by
    rw [supplyFeasible_iff, hfeasible]
    exact or_congr_right (or_congr_right (and_congr_left' (or_iff_right hair)))
  rw [hbase'] at hdropped ⊢
  refine ⟨h.exec_met, h.exec_closed, fun hmet hown => ⟨h.exec_uneligible hmet hown, fun hno hdec hset =>
    ⟨h.exec_withheld hmet hown hno hdec hset, fun hlink hrun hover hcluster => h.exec_untargeted hmet hown hno hdec hlink hrun
      hover hcluster⟩, fun he hair => ?_, fun he hair hroom why hwhy => ?_, fun he hf hmotion hahead hsome hentries hfits hslots
      hclaim => ?_⟩, fun older r newer x e hmet hown hrecords hbefore hr => ⟨fun hsame => ?_, fun hother halone hheld hentry
      hst hroom hx => ⟨fun hsending => ?_, fun i k hpending hclaim hund => ?_⟩⟩⟩
  · refine ⟨_, h.exec_eligible hmet hown (hel he), ?_⟩
    have hsame := claimRequest_sameAir (decidedTrack d t) c (pointTaken t.key d s)
    obtain ⟨hsupply, htimer⟩ := supplyRequested_of_standby (s := pointTaken t.key d s) heject hair
    simp only [syncBar_frame]
    exact ⟨hsame.supply.trans hsupply, fun hlow => hsame.charge.timer.trans (htimer hlow)⟩
  · refine h.exec_refused hmet hown (hel he) hroom (requestEntry_refused (by exact hair) hw hvs ?_)
    rw [← hfeas hair, Bool.not_eq_true] at hwhy
    exact hwhy
  · have hair : s.air.supply ≠ .standby := by
      rw [hfeasible] at hf
      rcases hf with h | h | ⟨h, -⟩ <;> rw [h] <;> nofun
    rw [h.exec_claimed hmet hown (hel he) hair hw hvs hmotion hahead hsome ((hfeas hair).2 hf) hentries hfits hslots hclaim,
      claimed]
    by_cases hempty : s.sched.entries = []
    · rw [if_pos hempty, if_pos hempty, if_pos hempty]
      rfl
    · rw [if_neg hempty, if_neg hempty, if_neg hempty]
      rfl
  · obtain ⟨k, g, hsame⟩ := hsame
    have hdecided : decidedClass d = some r.cls := by
      rw [hsame]
      rfl
    have hpending : (decidedTrack d t).own = .pending := hown
    rw [h.exec_pending hmet hown, handOff_of_pending h.decided hpending (by exact recordOf_of_split hrecords hbefore hr),
      if_pos (by exact hdecided)]
    exact congrArg _ (syncBar_of_sameBar hbar {})
  · have hne : decidedClass d ≠ some r.cls := by
      intro hsame
      cases d with
      | stillOpen => cases hsame
      | undecided mode => cases hsame
      | decided b k g =>
        cases hsame
        exact hother k g rfl
    obtain ⟨air, hexec⟩ := h.exec_reclassed_sending hmet hown hrecords hbefore hr hne hheld hentry hst hroom hx hsending
    refine ⟨_, entryRecord e { t with pointMet := true, decision := d, own := .none } .reclassed s, hexec, ?_⟩
    rw [hdropped, ← reclassed_records halone, ← hrecords]
    simp only [syncBar_frame]
    exact ⟨reclassed_leaves t d r e air s, rfl, rfl⟩
  · obtain ⟨air, hexec⟩ := h.exec_reclassed_pending hmet hown hrecords hbefore hr (by rw [hund]; rfl) halone hheld hentry hst
      hroom hx hpending hclaim
    have hrest : (removeRecord r.handle (removeSlot r.handle (reclassed t d r e air s))).claim.ownClaims = older ++ newer := by
      change (s.claim.ownClaims.map fun x => if x.handle = r.handle then { x with giveUp := some .reclassed } else x).filter
        (fun y => y.handle ≠ r.handle) = _
      rw [hrecords, reclassed_records halone, List.filter_append, List.filter_cons_of_neg (by simp),
        List.filter_eq_self.2 fun y hy => by simpa using halone y (List.mem_append_left _ hy),
        List.filter_eq_self.2 fun y hy => by simpa using halone y (List.mem_append_right _ hy)]
    refine ⟨_, entryRecord e { t with pointMet := true, decision := d, own := .none } .reclassed s, hexec, ?_⟩
    rw [hdropped, ← hrest]
    simp only [syncBar_frame]
    exact ⟨reclassed_leaves t d r e air s, rfl, rfl⟩

end Sys2Proof.Machine
end

/-! ### One track of the table, step by step (R29 to R33, R37 to R49, R54, R58) -/

section
namespace Sys2Proof.Machine

set_option Elab.async false

/-! #### A track in its seat -/

/-- A state with one track between those before it and those after it. -/
def seat (before after : List Track) (u : Track) (s : State) : State := { s with engine.tracks := before ++ u :: after }

/-- No other track has this key. -/
def KeyAlone (k : Nat) (before after : List Track) : Prop := ∀ v ∈ before ++ after, v.key ≠ k

theorem seat_self {s : State} {before after : List Track} {t : Track} (h : s.engine.tracks = before ++ t :: after) :
    seat before after t s = s := by
  rw [seat, ← h]

theorem keyAlone_of_split {before after : List Track} {t : Track} (h : ((before ++ t :: after).map (·.key)).Nodup) :
    KeyAlone t.key before after := by
  rw [List.map_append, List.map_cons, List.nodup_append, List.nodup_cons] at h
  obtain ⟨-, ⟨hafter, -⟩, hbefore⟩ := h
  intro v hv hkey
  rcases List.mem_append.1 hv with hv | hv
  · exact hbefore v.key (List.mem_map_of_mem hv) t.key (List.mem_cons_self ..) hkey
  · exact hafter (List.mem_map.2 ⟨v, hv, hkey⟩)

section
variable {k : Nat} {before after : List Track} {u : Track} {s : State}

theorem KeyAlone.ofBefore (h : KeyAlone k before after) : ∀ v ∈ before, v.key ≠ k := fun v hv => h v (List.mem_append_left _ hv)

theorem KeyAlone.ofAfter (h : KeyAlone k before after) : ∀ v ∈ after, v.key ≠ k := fun v hv => h v (List.mem_append_right _ hv)

theorem trackAt_seat (hu : u.key = k) (h : KeyAlone k before after) : trackAt k (seat before after u s) = some u := by
  have hnone : before.find? (fun v => v.key = k) = none := List.find?_eq_none.2 fun v hv => by simpa using h.ofBefore v hv
  change (before ++ u :: after).find? (fun v => v.key = k) = some u
  rw [List.find?_append, hnone, Option.none_or]
  exact List.find?_cons_of_pos (by simpa using hu)

theorem map_of_keyAlone {l : List Track} (f : Track → Track) (h : ∀ v ∈ l, v.key ≠ k) :
    (l.map fun v => if v.key = k then f v else v) = l :=
  (List.map_congr_left fun v hv => if_neg (h v hv)).trans (List.map_id _)

theorem modifyTrack_seat (f : Track → Track) (hu : u.key = k) (h : KeyAlone k before after) :
    modifyTrack k f (seat before after u s) = seat before after (f u) s := by
  have hmap : ((before ++ u :: after).map fun v => if v.key = k then f v else v) = before ++ f u :: after := by
    rw [List.map_append, List.map_cons, if_pos hu, map_of_keyAlone f h.ofBefore, map_of_keyAlone f h.ofAfter]
  rw [seat, seat, ← hmap, modifyTrack]

theorem filter_seat (hu : u.key = k) (h : KeyAlone k before after) :
    ((before ++ u :: after).filter fun v => v.key ≠ k) = before ++ after := by
  rw [List.filter_append, List.filter_cons_of_neg (by simpa using hu),
    List.filter_eq_self.2 fun v hv => by simpa using h.ofBefore v hv,
    List.filter_eq_self.2 fun v hv => by simpa using h.ofAfter v hv]

/-- An element put in its place stands in a seat that does not depend on the rest of it. -/
theorem exists_insertBefore_split {α : Type} (later : α → Bool) (l : List α) :
    ∃ b a, b ++ a = l ∧ ∀ y, insertBefore later y l = b ++ y :: a := by
  induction l with
  | nil => exact ⟨[], [], rfl, fun _ => rfl⟩
  | cons z zs ih =>
    by_cases hz : later z = true
    · exact ⟨[], z :: zs, rfl, fun _ => if_pos hz⟩
    · obtain ⟨b, a, hba, hput⟩ := ih
      exact ⟨z :: b, a, congrArg _ hba, fun y => (if_neg hz).trans (congrArg _ (hput y))⟩

/-! #### CLUSTER and the contribution (R31, R41, R46, R58) -/

theorem takeCluster_seat (cluster : Bool) (hu : u.key = k) (h : KeyAlone k before after) :
    takeCluster k cluster (seat before after u s) = seat before after { u with cluster := u.cluster || cluster } s := by
  unfold takeCluster
  cases cluster with
  | true =>
    rw [if_pos rfl, modifyTrack_seat _ hu h, Bool.or_true]
  | false =>
    rw [if_neg Bool.false_ne_true, Bool.or_false]

/-- A track after a contribution has been offered to its list (R58). -/
def offeredTrack (weight factor : Nat) (who : Node × SourceKind) (pairs : List ClassScore) (u : Track) : Track :=
  if who ∈ u.contributors then u
  else if 6 ≤ u.contributors.length then { u with crowded := true }
  else acceptContribution weight factor who pairs u

theorem offeredTrack_kept (weight factor : Nat) (who : Node × SourceKind) (pairs : List ClassScore) (u : Track) :
    (offeredTrack weight factor who pairs u).key = u.key ∧ idsOf (offeredTrack weight factor who pairs u) = idsOf u
      ∧ (offeredTrack weight factor who pairs u).primary = u.primary
      ∧ (offeredTrack weight factor who pairs u).d = u.d ∧ (offeredTrack weight factor who pairs u).length = u.length
      ∧ (offeredTrack weight factor who pairs u).source = u.source := by
  unfold offeredTrack
  repeat' split
  all_goals exact ⟨rfl, rfl, rfl, rfl, rfl, rfl⟩

theorem offerContribution_seat {who : Node × SourceKind} {factor : Nat} {pairs : List ClassScore} (hu : u.key = k)
    (h : KeyAlone k before after) (hown : u.own ≠ .owned) :
    (offerContribution k who factor pairs (seat before after u s)).1
      = seat before after (offeredTrack (prof s).weights[who.2] factor who pairs u) s := by
  rw [offerContribution, trackAt_seat hu h, offeredTrack]
  dsimp only
  by_cases hwho : who ∈ u.contributors
  · rw [if_pos (List.contains_iff_mem.2 hwho), if_pos hwho]
  rw [if_neg fun hc => hwho (List.contains_iff_mem.1 hc), if_neg hwho]
  by_cases hfull : 6 ≤ u.contributors.length
  · rw [if_pos (show Config.contributorSize ≤ u.contributors.length from hfull), if_pos hfull, modifyTrack_seat _ hu h]
  · rw [if_neg (show ¬ Config.contributorSize ≤ u.contributors.length from hfull), if_neg hfull]
    dsimp only
    rw [modifyTrack_seat _ hu h, checkLateEvidence, trackAt_seat (by exact hu) h]
    exact if_neg (by simp [acceptContribution, hown])

/-! #### Where no evaluation follows -/

/-- No evaluation follows an accepted contribution or the position `d`: no EJECT, or QUICK before the point (R64, R66). -/
def Quiet (mode : Mode) (d : Count) (s : State) : Prop :=
  (prof s).eject = false
    ∨ mode = .quick ∧ reached s (d + BitVec.ofNat 32 (prof s).barOffset - BitVec.ofNat 32 (prof s).decisionLead) = false

theorem Quiet.hand {mode : Mode} {d : Count} (h : Quiet mode d s) (k : Nat) : handToEvaluation mode k s = s := by
  unfold handToEvaluation
  split
  · rfl
  · refine if_neg ?_
    rcases h with h | ⟨rfl, -⟩
    · simp [h]
    · simp

theorem Quiet.notDue {mode : Mode} {d : Count} (h : Quiet mode d s) {v : Track} (hd : v.d = d) : pointDue s v = false := by
  rcases h with h | ⟨-, h⟩
  · simp [pointDue, h]
  · rw [pointDue, decisionPoint, hd]
    have hno : reached s (d + counts (prof s).barOffset - counts (prof s).decisionLead) = false := h
    rw [hno, Bool.and_false]

/-! #### Position refinement (R47, R48) -/

theorem outranks_iff (datum source : Option (BitVec 24)) : outranks datum source = true ↔ Replaces datum source := by
  unfold outranks Replaces
  cases datum with
  | none => simp
  | some m => cases source <;> simp

theorem refine_seat_moved {mode : Mode} {x : Extent} {datum : Option (BitVec 24)} (hu : u.key = k)
    (h : KeyAlone k before after) (hq : Quiet mode x.d s) (hout : Replaces datum u.source) :
    refine k x datum (seat before after u s)
      = { s with engine.tracks := placeTrack (movedTrack x datum u) (before ++ after) } := by
  rw [refine, trackAt_seat hu h]
  dsimp only
  rw [if_pos ((outranks_iff _ _).2 hout)]
  have hfilter : ((seat before after u s).engine.tracks.filter fun v => v.key ≠ k) = before ++ after := filter_seat hu h
  rw [hfilter]
  have hdue : pointDue s (movedTrack x datum u) = false := hq.notDue rfl
  exact if_neg (Bool.eq_false_iff.1 hdue)

theorem refine_seat_kept {x : Extent} {datum : Option (BitVec 24)} (hu : u.key = k) (h : KeyAlone k before after)
    (hout : ¬ Replaces datum u.source) : refine k x datum (seat before after u s) = seat before after u s := by
  rw [refine, trackAt_seat hu h]
  exact if_neg fun hyes => hout ((outranks_iff _ _).1 hyes)

theorem finishEntry_seat (hu : u.key = k) (h : KeyAlone k before after)
    (hahead : reached s (u.d + BitVec.ofNat 32 u.length + BitVec.ofNat 32 (prof s).horizon) = false) :
    finishEntry k (seat before after u s) = seat before after u s := by
  rw [finishEntry, trackAt_seat hu h]
  exact if_neg (Bool.eq_false_iff.1 hahead)

end

/-! #### The best candidate (R37, R38) -/

theorem betterOf_eq_left {x : Extent} {t u : Track}
    (h : overlapScore x u < overlapScore x t ∨ overlapScore x u = overlapScore x t ∧ 0 ≤ signedDiff u.d t.d) :
    betterOf x t u = t := by
  unfold betterOf
  have hnot : ¬ overlapScore x t < overlapScore x u := by omega
  rw [if_neg hnot]
  refine if_neg fun htie => ?_
  obtain ⟨hsame, hafter⟩ := Bool.and_eq_true_iff.1 htie
  have hsame := of_decide_eq_true hsame
  obtain ⟨-, hd⟩ := h.resolve_left (by omega)
  have hafter : 0 < (t.d - u.d).toInt := of_decide_eq_true hafter
  have hneg : u.d - t.d = -(t.d - u.d) := by bv_omega
  rw [signedDiff, hneg, BitVec.toInt_neg] at hd
  have hlt := BitVec.toInt_lt (x := t.d - u.d)
  rw [Int.bmod_def] at hd
  split at hd <;> omega

theorem betterOf_eq_right {x : Extent} {t u : Track}
    (h : overlapScore x u < overlapScore x t ∨ overlapScore x u = overlapScore x t ∧ 0 < signedDiff u.d t.d) :
    betterOf x u t = t := by
  unfold betterOf
  rcases h with h | ⟨hsame, hd⟩
  · exact if_pos h
  · rw [if_neg (by omega)]
    exact if_pos (by simp [hsame, isAfter, hd])

theorem foldl_betterOf_mem (x : Extent) (l : List Track) (b : Track) : l.foldl (betterOf x) b ∈ b :: l := by
  induction l generalizing b with
  | nil => exact List.mem_singleton_self b
  | cons y ys ih =>
    have hstep : betterOf x b y = b ∨ betterOf x b y = y := by
      unfold betterOf
      split
      · exact .inr rfl
      · split
        · exact .inr rfl
        · exact .inl rfl
    rcases List.mem_cons.1 (ih (betterOf x b y)) with h | h
    · rcases hstep with hb | hb
      · exact List.mem_cons.2 (.inl (h.trans hb))
      · exact List.mem_cons_of_mem _ (List.mem_cons.2 (.inl (h.trans hb)))
    · exact List.mem_cons_of_mem _ (List.mem_cons_of_mem _ h)

theorem bestCandidate_of_chosen {x : Extent} {before after : List Track} {t : Track}
    (hb : ∀ u ∈ before, overlapScore x u < overlapScore x t ∨ overlapScore x u = overlapScore x t ∧ 0 < signedDiff u.d t.d)
    (ha : ∀ u ∈ after, overlapScore x u < overlapScore x t ∨ overlapScore x u = overlapScore x t ∧ 0 ≤ signedDiff u.d t.d) :
    bestCandidate x (before ++ t :: after) = some t := by
  have htail : after.foldl (betterOf x) t = t := by
    induction after with
    | nil => rfl
    | cons u us ih =>
      obtain ⟨hu, hus⟩ := List.forall_mem_cons.1 ha
      rw [List.foldl_cons, betterOf_eq_left hu, ih hus]
  cases before with
  | nil => exact congrArg some htail
  | cons b bs =>
    refine congrArg some ?_
    change (bs ++ t :: after).foldl (betterOf x) b = t
    rw [List.foldl_append, List.foldl_cons, betterOf_eq_right (hb _ (foldl_betterOf_mem x bs b)), htail]

theorem bestCandidate_candidatesFor {x : Extent} {before after : List Track} {t : Track} {s : State}
    (hs : s.engine.tracks = before ++ t :: after) (h : ChosenFor (prof s) x before t after) :
    bestCandidate x (candidatesFor x s) = some t := by
  obtain ⟨hcand, hbefore, hafter⟩ := h
  rw [candidatesFor, hs, List.filter_append, List.filter_cons_of_pos hcand]
  refine bestCandidate_of_chosen (fun u hu => ?_) fun u hu => ?_
  · obtain ⟨hmem, hu⟩ := List.mem_filter.1 hu
    exact hbefore u hmem hu
  · obtain ⟨hmem, hu⟩ := List.mem_filter.1 hu
    exact hafter u hmem hu

theorem candidatesFor_eq_nil {x : Extent} {s : State} (h : ∀ v ∈ s.engine.tracks, isCandidate (prof s) x v = false) :
    candidatesFor x s = [] :=
  List.filter_eq_nil_iff.2 fun v hv => Bool.eq_false_iff.1 (h v hv)

/-! #### Room in the table (R54, R55) -/

theorem roomForTrack_of_room {s : State} (p : Option Nat) (h : s.engine.tracks.length < 128) : roomForTrack p s = some s :=
  if_pos h

theorem mayEvict_iff (p : Option Nat) (s : State) (v : Track) :
    mayEvict p s v = true
      ↔ ¬ ((∃ e ∈ s.sched.entries, e.track = v.key) ∨ v.heldRetirement = true ∨ v.owner = some (prof s).node
        ∨ p = some v.key) := by
  simp only [mayEvict, linked, Bool.and_eq_true, Bool.not_eq_true', List.any_eq_false, decide_eq_true_eq, not_or, not_exists,
    not_and, Bool.not_eq_true, ne_eq, and_assoc]

/-- The state after an eviction (R54). -/
def evictedState (older newer : List Track) (v : Track) (s : State) : State :=
  { s with
    engine.evicted := bump s.engine.evicted
    engine.unannounced := if v.unannounced then bump s.engine.unannounced else s.engine.unannounced
    engine.crowded := if v.crowded then bump s.engine.crowded else s.engine.crowded
    engine.split := if v.split then bump s.engine.split else s.engine.split
    engine.tracks := older ++ newer
    claim.ownClaims := s.claim.ownClaims.map fun r => if r.id ∈ idsOf v then { r with orphan := true } else r }

theorem evict_eq {s : State} {older newer : List Track} {v : Track} (hs : s.engine.tracks = older ++ v :: newer)
    (h : KeyAlone v.key older newer) : evict v s = evictedState older newer v s := by
  have hfilter : (s.engine.tracks.filter fun u => u.key ≠ v.key) = older ++ newer := by
    rw [hs]
    exact filter_seat rfl h
  have horphan : (fun r : OwnClaim => if hasId r.id v then { r with orphan := true } else r)
      = fun r => if r.id ∈ idsOf v then { r with orphan := true } else r := by
    funext r
    exact if_congr hasId_iff rfl rfl
  rw [evictedState, ← hfilter, ← horphan]
  rfl

theorem roomForTrack_of_full {s : State} {p : Option Nat} {older newer : List Track} {v : Track}
    (hfull : s.engine.tracks.length = 128) (hs : s.engine.tracks = older ++ v :: newer)
    (holder : ∀ w ∈ older, mayEvict p s w = false) (hv : mayEvict p s v = true) (hk : KeyAlone v.key older newer) :
    roomForTrack p s = some (evictedState older newer v s) := by
  have hnone : older.find? (mayEvict p s) = none := List.find?_eq_none.2 fun w hw => Bool.eq_false_iff.1 (holder w hw)
  have hfind : s.engine.tracks.find? (mayEvict p s) = some v := by
    rw [hs, List.find?_append, hnone, Option.none_or]
    exact List.find?_cons_of_pos hv
  have hsize : ¬ s.engine.tracks.length < Config.trackSize := Nat.not_lt.2 (Nat.le_of_eq hfull.symm)
  rw [roomForTrack, if_neg hsize, hfind, Option.map_some, evict_eq hs hk]

theorem roomForTrack_eq_none {s : State} {p : Option Nat} (hfull : s.engine.tracks.length = 128)
    (h : ∀ w ∈ s.engine.tracks, mayEvict p s w = false) : roomForTrack p s = none := by
  have hsize : ¬ s.engine.tracks.length < Config.trackSize := Nat.not_lt.2 (Nat.le_of_eq hfull.symm)
  rw [roomForTrack, if_neg hsize, List.find?_eq_none.2 fun w hw => Bool.eq_false_iff.1 (h w hw)]
  rfl

end Sys2Proof.Machine
end

/-! ### PIECE notices at the track table (R42 to R48, R54, R55) -/

section
namespace Sys2Proof.Machine

set_option Elab.async false

/-! #### A track placed in the table stands in a seat -/

theorem exists_seat_placeTrack (d : Count) (l : List Track) (s : State) :
    ∃ b a, b ++ a = l ∧ ∀ y : Track, y.d = d → { s with engine.tracks := placeTrack y l } = seat b a y s := by
  obtain ⟨b, a, hba, hput⟩ := exists_insertBefore_split (fun v : Track => isAfter v.d d) l
  refine ⟨b, a, hba, fun y hy => ?_⟩
  rw [seat, ← hput y, placeTrack, hy]

theorem handNewTrack_seat {mode : Mode} {k : Nat} {before after : List Track} {u : Track} {s : State} (hu : u.key = k)
    (h : KeyAlone k before after) (hq : Quiet mode u.d s) :
    handNewTrack mode k (seat before after u s) = seat before after u s := by
  have hdue : pointDue (seat before after u s) u = false := Quiet.notDue (s := seat before after u s) hq rfl
  have hhand : handToEvaluation mode k (seat before after u s) = seat before after u s :=
    Quiet.hand (s := seat before after u s) hq k
  rw [handNewTrack, trackAt_seat hu h]
  dsimp only
  rw [if_neg (Bool.eq_false_iff.1 hdue), hhand]

/-! #### A notice applied to its track (R46) -/

section
variable {mode : Mode} {x : Extent} {origin : Node} {info : PieceInfo} {k : Nat} {before after : List Track} {u : Track}
  {s : State}

/-- A track after a notice has brought CLUSTER and its contribution (R31, R46, R58). -/
def noticedTrack (weight : Nat) (origin : Node) (info : PieceInfo) (u : Track) : Track :=
  offeredTrack weight 16 (origin, info.kind) info.pairs { u with cluster := u.cluster || info.cluster }

theorem noticedTrack_kept (weight : Nat) (origin : Node) (info : PieceInfo) (u : Track) :
    (noticedTrack weight origin info u).key = u.key ∧ (noticedTrack weight origin info u).d = u.d
      ∧ (noticedTrack weight origin info u).length = u.length ∧ (noticedTrack weight origin info u).source = u.source := by
  obtain ⟨hkey, -, -, hd, hlength, hsource⟩ := offeredTrack_kept weight 16 (origin, info.kind) info.pairs
    { u with cluster := u.cluster || info.cluster }
  exact ⟨hkey, hd, hlength, hsource⟩

theorem noticed_seat (hu : u.key = k) (h : KeyAlone k before after) (hown : u.own ≠ .owned) :
    (offerContribution k (origin, info.kind) 16 info.pairs (takeCluster k info.cluster (seat before after u s))).1
      = seat before after (noticedTrack (prof s).weights[info.kind] origin info u) s := by
  rw [takeCluster_seat _ hu h, offerContribution_seat (by exact hu) h (by exact hown), noticedTrack]

theorem handed_seat (hq : Quiet mode x.d s) (accepted : Bool) :
    (if accepted then handToEvaluation mode k (seat before after u s) else seat before after u s) = seat before after u s := by
  cases accepted
  · rfl
  · exact Quiet.hand (s := seat before after u s) hq k

theorem applyPiece_moved (hu : u.key = k) (h : KeyAlone k before after) (hown : u.own ≠ .owned) (hq : Quiet mode x.d s)
    (hahead : reached s (x.d + BitVec.ofNat 32 x.length + BitVec.ofNat 32 (prof s).horizon) = false)
    (hout : Replaces (senderDatum origin s) u.source) :
    applyPiece mode x origin info k (seat before after u s)
      = { s with
          engine.tracks := placeTrack
            (movedTrack x (senderDatum origin s) (noticedTrack (prof s).weights[info.kind] origin info u))
            (before ++ after) } := by
  obtain ⟨hkey, -, -, hsource⟩ := noticedTrack_kept (prof s).weights[info.kind] origin info u
  obtain ⟨b, a, hba, hseat⟩ := exists_seat_placeTrack x.d (before ++ after) s
  have halone : KeyAlone k b a := by rw [KeyAlone, hba]; exact h
  rw [applyPiece]
  dsimp only
  rw [noticed_seat hu h hown, show senderDatum origin (seat before after _ s) = senderDatum origin s from rfl,
    refine_seat_moved (hkey.trans hu) h hq (by rw [hsource]; exact hout), hseat _ rfl,
    handed_seat hq]
  exact finishEntry_seat (hkey.trans hu) halone hahead

theorem applyPiece_kept (hu : u.key = k) (h : KeyAlone k before after) (hown : u.own ≠ .owned) (hq : Quiet mode x.d s)
    (hahead : reached s (u.d + BitVec.ofNat 32 u.length + BitVec.ofNat 32 (prof s).horizon) = false)
    (hout : ¬ Replaces (senderDatum origin s) u.source) :
    applyPiece mode x origin info k (seat before after u s)
      = seat before after (noticedTrack (prof s).weights[info.kind] origin info u) s := by
  obtain ⟨hkey, hd, hlength, hsource⟩ := noticedTrack_kept (prof s).weights[info.kind] origin info u
  rw [applyPiece, noticed_seat hu h hown, show senderDatum origin (seat before after _ s) = senderDatum origin s from rfl,
    refine_seat_kept (hkey.trans hu) h (by rw [hsource]; exact hout), handed_seat hq]
  exact finishEntry_seat (hkey.trans hu) h (by rw [hd, hlength]; exact hahead)

end

/-! #### A notice that makes a track (R43, R45) -/

/-- The SPLIT mark of the candidate a track is split from (R45). -/
def splitMark (splitFrom : Option Nat) (v : Track) : Track := if splitFrom = some v.key then { v with split := true } else v

theorem splitMark_key (splitFrom : Option Nat) (v : Track) : (splitMark splitFrom v).key = v.key := by
  unfold splitMark; split <;> rfl

theorem markSplit_eq (splitFrom : Option Nat) (s : State) :
    markSplit splitFrom s = { s with engine.tracks := s.engine.tracks.map (splitMark splitFrom) } := by
  cases splitFrom with
  | none => rw [show splitMark none = id from rfl, List.map_id, markSplit]
  | some j =>
    have hmark : (fun v : Track => if v.key = j then { v with split := true } else v) = splitMark (some j) := by
      funext v
      simp only [splitMark, Option.some.injEq, eq_comm (a := j)]
    rw [← hmark, markSplit, modifyTrack]

theorem createFromPiece_of_room {mode : Mode} {x : Extent} {origin : Node} {info : PieceInfo} {splitFrom : Option Nat}
    {s s1 : State} (hroom : roomForTrack splitFrom s = some s1) (hfresh : ∀ v ∈ s1.engine.tracks, v.key ≠ s1.engine.nextKey)
    (hq : Quiet mode x.d s1)
    (hahead : reached s1 (x.d + BitVec.ofNat 32 x.length + BitVec.ofNat 32 (prof s1).horizon) = false) :
    createFromPiece mode x origin info splitFrom s
      = { s1 with
          engine.nextKey := s1.engine.nextKey + 1
          engine.tracks := placeTrack
            (acceptContribution (prof s1).weights[info.kind] 16 (origin, info.kind) info.pairs
              (newTrack s1.engine.nextKey info.id x (senderDatum origin s1) info.cluster splitFrom.isSome))
            (s1.engine.tracks.map (splitMark splitFrom)) } := by
  obtain ⟨t, ht⟩ : ∃ t, t = acceptContribution (prof s1).weights[info.kind] 16 (origin, info.kind) info.pairs
    (newTrack s1.engine.nextKey info.id x (senderDatum origin s1) info.cluster splitFrom.isSome) := ⟨_, rfl⟩
  have htkey : t.key = s1.engine.nextKey := by rw [ht]; rfl
  have htd : t.d = x.d := by rw [ht]; rfl
  have htlength : t.length = x.length := by rw [ht]; rfl
  obtain ⟨b, a, hba, hseat⟩ := exists_seat_placeTrack x.d (s1.engine.tracks.map (splitMark splitFrom))
    { s1 with engine.nextKey := s1.engine.nextKey + 1 }
  have halone : KeyAlone s1.engine.nextKey b a := by
    rw [KeyAlone, hba]
    intro v hv
    obtain ⟨w, hw, rfl⟩ := List.mem_map.1 hv
    rw [splitMark_key]
    exact hfresh w hw
  have hplaced := hseat t htd
  rw [← ht, createFromPiece, hroom]
  dsimp only
  change finishEntry _ (handNewTrack mode _ (createTrack _ _ _ (markSplit splitFrom s1))) = _
  have hcreated : createTrack (newTrack s1.engine.nextKey info.id x (senderDatum origin s1) info.cluster splitFrom.isSome)
      (origin, info.kind) info.pairs (markSplit splitFrom s1) = seat b a t { s1 with engine.nextKey := s1.engine.nextKey + 1 } := by
    rw [markSplit_eq, ← hplaced, ht]
    rfl
  rw [hcreated]
  rw [handNewTrack_seat htkey halone (by rw [htd]; exact hq)]
  exact (finishEntry_seat htkey halone (by rw [htd, htlength]; exact hahead)).trans hplaced.symm

end Sys2Proof.Machine
end

/-! ### PIECE notices at the track table: the entry taken (R34, R42 to R46) -/

section
namespace Sys2Proof.Machine

set_option Elab.async false

/-! #### The entry taken -/

/-- The state with a PIECE entry taken from the general queue (R34). -/
def pieceTaken (rest : List QueueEntry) (s : State) : State := { s with accept.general := rest, engine.turn := .intake }

theorem exec_pieceAssociated {s t : State} {e : QueueEntry} {rest : List QueueEntry} {pos : BitVec 24} {info : PieceInfo}
    {x : Extent} (hbar : BarInStep s) (hrun : s.port.station = .running)
    (hturn : s.engine.turn = .general ∨ ∀ y ∈ s.intake.queue, isDetection y = false)
    (hkeeps : (prof s).sense = true ∨ (prof s).eject = true)
    (hfirst : takeFirst isPiece s.accept.general = some (e, rest)) (hwire : e.wire = .piece pos info) (hown : e.own = false)
    (hx : x = pieceExtent s e.latch pos info)
    (hahead : reached s (x.d + BitVec.ofNat 32 x.length + BitVec.ofNat 32 (prof s).horizon) = false)
    (ht : associatePiece x e.origin info (pieceTaken rest s) = t) (hsame : SameBar t s) :
    exec .pieceEntryTaken s = .next t := by
  have htake : takePiece e.latch e.origin pos info (pieceTaken rest s) = t := by
    rw [takePiece]
    refine (if_neg (Bool.eq_false_iff.1 ?_)).trans ?_
    · rw [hx] at hahead; exact hahead
    · rw [hx] at ht; exact ht
  rw [exec_pieceEntryTaken (nextPiece_eq ((working_iff s).2 (.inl hrun)) hturn hfirst) hown hrun hkeeps hwire]
  exact congrArg _ ((congrArg syncBar htake).trans (syncBar_of_sameBar hbar hsame))

/-! #### Its track (R43 to R45) -/

theorem associatePiece_named {x : Extent} {origin : Node} {info : PieceInfo} {s : State} {t : Track}
    (h : trackOf info.id s = some t) :
    associatePiece x origin info s = applyPiece s.engine.mode x origin info t.key s := by
  rw [associatePiece, h]

theorem associatePiece_merged {x : Extent} {origin : Node} {info : PieceInfo} {s : State} {t : Track}
    (hfree : trackOf info.id s = none) (hbest : bestCandidate x (candidatesFor x s) = some t) (halone : t.aliasId = none) :
    associatePiece x origin info s
      = applyPiece s.engine.mode x origin info t.key (modifyTrack t.key (mergeId info.id) s) := by
  rw [associatePiece, hfree]
  dsimp only
  rw [hbest]
  exact if_pos (by rw [halone]; rfl)

theorem associatePiece_created {x : Extent} {origin : Node} {info : PieceInfo} {s : State} {split : Option Track}
    (hfree : trackOf info.id s = none) (hbest : bestCandidate x (candidatesFor x s) = split)
    (halias : ∀ t, split = some t → t.aliasId ≠ none) :
    associatePiece x origin info s = createFromPiece s.engine.mode x origin info (split.map (·.key)) s := by
  rw [associatePiece, hfree]
  dsimp only
  rw [hbest]
  cases split with
  | none => rfl
  | some t => exact if_neg (by simpa using halias t rfl)

/-! #### What the notice leaves of its track -/

/-- The ID of a notice merged with a track's (R44), with the order of IDs written out. -/
theorem mergeId_eq (id : PieceId) (t : Track) :
    mergeId id t
      = if id.node < t.primary.node ∨ id.node = t.primary.node ∧ id.seq < t.primary.seq then
          { t with primary := id, aliasId := some t.primary }
        else { t with aliasId := some id } :=
  if_congr (by simp [idBefore]) rfl rfl

/-- Two records of a track alike in what a notice adds to, in the position source and in the own-state. -/
structure AlikeForNotice (m t : Track) : Prop where
  key : m.key = t.key := by rfl
  d : m.d = t.d := by rfl
  length : m.length = t.length := by rfl
  source : m.source = t.source := by rfl
  own : m.own = t.own := by rfl
  cluster : m.cluster = t.cluster := by rfl
  contributors : m.contributors = t.contributors := by rfl
  accumulators : m.accumulators = t.accumulators := by rfl

theorem mergeId_alike (id : PieceId) (t : Track) : AlikeForNotice (mergeId id t) t := by
  unfold mergeId
  split
  · exact {}
  · exact {}

theorem noticedTrack_of_alike {m t : Track} (h : AlikeForNotice m t) (weight : Nat) (origin : Node) (info : PieceInfo) :
    noticedTrack weight origin info m
      = if (origin, info.kind) ∈ t.contributors then { m with cluster := t.cluster || info.cluster }
        else if 6 ≤ t.contributors.length then { m with cluster := t.cluster || info.cluster, crowded := true }
        else
          { m with
            cluster := t.cluster || info.cluster
            contributors := t.contributors ++ [(origin, info.kind)]
            accumulators := addPairs weight 16 info.pairs t.accumulators } := by
  rw [noticedTrack, offeredTrack, acceptContribution, ← h.cluster, ← h.contributors, ← h.accumulators]

/-- The track an entry's notice is applied to: named by its ID, or merged with it (R43, R44). -/
theorem associatePiece_seat {x : Extent} {origin : Node} {info : PieceInfo} {s : State} {before after : List Track} {t m : Track}
    (hs : TableLawful s) (hsplit : s.engine.tracks = before ++ t :: after)
    (hm : info.id ∈ idsOf t ∧ m = t
      ∨ (∀ v ∈ s.engine.tracks, info.id ∉ idsOf v) ∧ ChosenFor (prof s) x before t after ∧ t.aliasId = none
        ∧ m
          = (if info.id.node < t.primary.node ∨ info.id.node = t.primary.node ∧ info.id.seq < t.primary.seq then
              { t with primary := info.id, aliasId := some t.primary }
            else { t with aliasId := some info.id })) :
    AlikeForNotice m t
      ∧ associatePiece x origin info s = applyPiece s.engine.mode x origin info t.key (seat before after m s) := by
  have halone : KeyAlone t.key before after := keyAlone_of_split (by rw [← hsplit]; exact hs.keys.1)
  have hself : seat before after t s = s := seat_self hsplit
  have hmem : t ∈ s.engine.tracks := by rw [hsplit]; exact List.mem_append_right _ (List.mem_cons_self ..)
  rcases hm with ⟨hid, rfl⟩ | ⟨hfree, hchosen, halias, rfl⟩
  · refine ⟨{}, ?_⟩
    rw [hself, associatePiece_named (trackOf_of_mem hs.ids hmem hid)]
  · rw [← mergeId_eq]
    refine ⟨mergeId_alike info.id t, ?_⟩
    rw [associatePiece_merged (trackOf_eq_none_iff.2 hfree) (bestCandidate_candidatesFor hsplit hchosen) halias,
      ← modifyTrack_seat (mergeId info.id) rfl halone, hself]

/-! #### The candidate a track is split from (R45, R54) -/

theorem bestCandidate_of_split {x : Extent} {s : State} {before after : List Track} {split : Option Track}
    (h : split = none ∧ (∀ v ∈ s.engine.tracks, isCandidate (prof s) x v = false)
      ∨ ∃ t, split = some t ∧ s.engine.tracks = before ++ t :: after ∧ ChosenFor (prof s) x before t after
        ∧ t.aliasId ≠ none) :
    bestCandidate x (candidatesFor x s) = split ∧ (∀ t, split = some t → t.aliasId ≠ none)
      ∧ ∀ t, split = some t → t ∈ s.engine.tracks := by
  rcases h with ⟨hnone, hno⟩ | ⟨t, hsome, hsplit, hchosen, halias⟩
  · rw [candidatesFor_eq_nil hno, hnone]
    exact ⟨rfl, fun t ht => absurd ht (by simp), fun t ht => absurd ht (by simp)⟩
  · have hmem : t ∈ s.engine.tracks := by rw [hsplit]; exact List.mem_append_right _ (List.mem_cons_self ..)
    rw [hsome]
    exact ⟨bestCandidate_candidatesFor hsplit hchosen, fun u hu => Option.some_inj.1 hu ▸ halias,
      fun u hu => Option.some_inj.1 hu ▸ hmem⟩

section
variable {s : State} {split : Option Track}

theorem map_key_eq_iff (hs : TableLawful s) (hsplit : ∀ t, split = some t → t ∈ s.engine.tracks) {v : Track}
    (hv : v ∈ s.engine.tracks) : split.map (·.key) = some v.key ↔ split = some v := by
  cases split with
  | none => simp
  | some t =>
    rw [Option.map_some, Option.some_inj, Option.some_inj]
    exact ⟨List.inj_on_of_nodup_map hs.keys.1 (hsplit t rfl) hv, fun h => congrArg _ h⟩

theorem mayEvict_iff_not_stays (hs : TableLawful s) (hsplit : ∀ t, split = some t → t ∈ s.engine.tracks) {v : Track}
    (hv : v ∈ s.engine.tracks) : mayEvict (split.map (·.key)) s v = true ↔ ¬ StaysAtEviction s split v := by
  rw [mayEvict_iff, map_key_eq_iff hs hsplit hv, StaysAtEviction]

theorem map_splitMark (hs : TableLawful s) (hsplit : ∀ t, split = some t → t ∈ s.engine.tracks) {l : List Track}
    (hl : ∀ v ∈ l, v ∈ s.engine.tracks) :
    l.map (splitMark (split.map (·.key))) = l.map fun v => if split = some v then { v with split := true } else v :=
  List.map_congr_left fun _ hv => if_congr (map_key_eq_iff hs hsplit (hl _ hv)) rfl rfl

end

/-- Settles O10. -/
theorem pieceNoticesJoinTheTrackTable : Obligations.PieceNoticesJoinTheTrackTable := by
  intro s e rest pos info x source fresh before after hbar hs hrun hturn hkeeps hfirst hwire hown hx hahead hquiet hsource
    hfresh
  have hs' : TableLawful (pieceTaken rest s) := ⟨hs.keys, hs.size, hs.ids⟩
  have hq : Quiet (pieceTaken rest s).engine.mode x.d (pieceTaken rest s) := hquiet
  have hsender : senderDatum e.origin (pieceTaken rest s) = source := hsource.symm
  have hexec {t : State} := exec_pieceAssociated (t := t) hbar hrun hturn hkeeps hfirst hwire hown hx hahead
  refine ⟨fun t m c u hsplit howned hm hc hu => ?_, fun split marked hfree hcand hmarked => ?_⟩
  · obtain ⟨halike, hassoc⟩ := associatePiece_seat (origin := e.origin) hs' hsplit hm
    have halone : KeyAlone t.key before after := keyAlone_of_split (by rw [← hsplit]; exact hs.keys.1)
    have hnoticed := noticedTrack_of_alike halike (prof s).weights[info.kind] e.origin info
    rw [← hc] at hnoticed
    refine ⟨fun hout => ?_, fun hstay hkept => ?_⟩
    · refine hexec (hassoc.trans ((applyPiece_moved halike.key halone (by rw [halike.own]; exact howned) hq hahead
        (by rw [hsender, halike.source]; exact hout)).trans ?_)) {}
      rw [hsender, show (prof (pieceTaken rest s)).weights = (prof s).weights from rfl, hnoticed, hu]
      rfl
    · refine hexec (hassoc.trans ((applyPiece_kept halike.key halone (by rw [halike.own]; exact howned) hq
        (by rw [halike.d, halike.length]; exact hkept) (by rw [hsender, halike.source]; exact hstay)).trans ?_)) {}
      rw [show (prof (pieceTaken rest s)).weights = (prof s).weights from rfl, hnoticed]
      rfl
  · obtain ⟨hbest, halias, hmem⟩ := bestCandidate_of_split (s := pieceTaken rest s) hcand
    have hassoc := associatePiece_created (s := pieceTaken rest s) (origin := e.origin) (trackOf_eq_none_iff.2 hfree) hbest halias
    have hnewer : ∀ v ∈ s.engine.tracks, v.key ≠ s.engine.nextKey := fun v hv => Nat.ne_of_lt (hs.keys.2 v hv)
    have hsome : (split.map (·.key)).isSome = split.isSome := Option.isSome_map ..
    subst hmarked
    refine ⟨fun hroom => ?_, fun older v newer hfull hsplit holder hv => ?_, fun hfull hall => ?_⟩
    · refine hexec (hassoc.trans ((createFromPiece_of_room (roomForTrack_of_room _ (s := pieceTaken rest s) hroom) hnewer hq
        hahead).trans ?_)) {}
      rw [hsome, hsender, show (pieceTaken rest s).engine.tracks = s.engine.tracks from rfl,
        map_splitMark hs hmem fun _ hv => hv, hfresh]
      rfl
    · have halone : KeyAlone v.key older newer := keyAlone_of_split (by rw [← hsplit]; exact hs.keys.1)
      have hin {w : Track} (hw : w ∈ older ++ v :: newer) : w ∈ s.engine.tracks := by rw [hsplit]; exact hw
      have hrest {w : Track} (hw : w ∈ older ++ newer) : w ∈ s.engine.tracks :=
        hin ((List.mem_append.1 hw).elim (List.mem_append_left _) fun h => List.mem_append_right _ (List.mem_cons_of_mem _ h))
      have hroom := roomForTrack_of_full (s := pieceTaken rest s) (p := split.map (·.key)) hfull hsplit
        (fun w hw => Bool.eq_false_iff.2 fun hmay =>
          (mayEvict_iff_not_stays hs hmem (hin (List.mem_append_left _ hw))).1 hmay (holder w hw))
        ((mayEvict_iff_not_stays hs hmem (hin (List.mem_append_right _ (List.mem_cons_self ..)))).2 hv) halone
      refine hexec (hassoc.trans ((createFromPiece_of_room hroom (fun w hw => hnewer w (hrest hw)) hq hahead).trans ?_)) {}
      rw [hsome, show senderDatum e.origin (evictedState older newer v (pieceTaken rest s)) = source from hsender,
        show (evictedState older newer v (pieceTaken rest s)).engine.tracks = older ++ newer from rfl,
        map_splitMark hs hmem fun _ hw => hrest hw, hfresh]
      rfl
    · have hroom : roomForTrack (split.map (·.key)) (pieceTaken rest s) = none :=
        roomForTrack_eq_none hfull fun w hw => Bool.eq_false_iff.2 fun hmay =>
          (mayEvict_iff_not_stays hs hmem hw).1 hmay (hall w hw)
      refine hexec (hassoc.trans ?_) {}
      rw [createFromPiece, hroom]
      rfl

end Sys2Proof.Machine
end

/-! ### Detections at the track table (R30, R34, R37 to R41, R50, R51) -/

section
namespace Sys2Proof.Machine

set_option Elab.async false

/-! #### The entry taken (R34) -/

/-- The state with a detection taken from the intake queue (R34). -/
def detectionTaken (rest : List IntakeEntry) (s : State) : State := { s with intake.queue := rest, engine.turn := .general }

theorem nextDetection_eq {s : State} {e : Detection} {rest : List IntakeEntry} (hrun : s.port.station = .running)
    (hturn : s.engine.turn = .intake ∨ ∀ y ∈ s.accept.general, isPiece y = false)
    (h : takeFirst isDetection s.intake.queue = some (.detection e, rest)) : nextDetection s = some (e, rest) := by
  have hnext : (s.port.station = .running && (s.engine.turn = .intake || !s.accept.general.any isPiece)) = true := by
    simpa [hrun] using hturn
  rw [nextDetection, if_pos hnext, h]

theorem exec_detectionTaken {s t : State} {e : Detection} {rest : List IntakeEntry} (hbar : BarInStep s)
    (hrun : s.port.station = .running)
    (hturn : s.engine.turn = .intake ∨ ∀ y ∈ s.accept.general, isPiece y = false)
    (hfirst : takeFirst isDetection s.intake.queue = some (.detection e, rest))
    (ht : takeDetection e (detectionTaken rest s) = t) (hsame : SameBar t s) : exec .detectionEntryTaken s = .next t := by
  change execDetectionEntryTaken s = _
  rw [execDetectionEntryTaken, nextDetection_eq hrun hturn hfirst]
  exact congrArg _ ((congrArg syncBar ht).trans (syncBar_of_sameBar hbar hsame))

/-! #### The matched track (R38, R39) -/

theorem matchDetection_eq {mode : Mode} {x : Extent} {s : State} {before after : List Track} {t : Track}
    (hsplit : s.engine.tracks = before ++ t :: after)
    (h : mode = .full ∧ ChosenFor (prof s) x before t after
      ∨ mode = .quick ∧ isCandidate (prof s) x t = true ∧ ∀ v ∈ before, isCandidate (prof s) x v = false) :
    matchDetection mode x s = some t := by
  rcases h with ⟨rfl, hchosen⟩ | ⟨rfl, hcand, hbefore⟩
  · exact bestCandidate_candidatesFor hsplit hchosen
  · have hnone : before.filter (isCandidate (prof s) x) = [] :=
      List.filter_eq_nil_iff.2 fun v hv => Bool.eq_false_iff.1 (hbefore v hv)
    change (candidatesFor x s).head? = some t
    rw [candidatesFor, hsplit, List.filter_append, hnone, List.filter_cons_of_pos hcand]
    rfl

theorem matchDetection_eq_none (mode : Mode) {x : Extent} {s : State}
    (h : ∀ v ∈ s.engine.tracks, isCandidate (prof s) x v = false) : matchDetection mode x s = none := by
  unfold matchDetection
  rw [candidatesFor_eq_nil h]
  cases mode <;> rfl

/-- The overlap factor with the shared lanes written out (R60). -/
theorem overlapFactor_eq (mode : Mode) (e : Detection) (t : Track) :
    overlapFactor mode e t
      = if mode = .quick then 16
        else 16 * (min e.laneHi t.laneHi + 1 - max e.laneLo t.laneLo) / (e.laneHi - e.laneLo + 1) := by
  cases mode <;> rfl

/-! #### The announcement (R50, R51, R93) -/

/-- The PIECE requested for a detection (R50). -/
def announcement (mode : Mode) (e : Detection) (id : PieceId) (s : State) : Notice :=
  .piece e.d
    { id := id
      length := BitVec.ofNat 12 e.length
      laneLo := byteOf e.laneLo
      laneHi := byteOf e.laneHi
      kind := (prof s).localKind
      mode := mode
      cluster := e.cluster
      pairs := e.pairs }

/-- The link after the request for a PIECE, taken or refused (R93). -/
def announcedLink (taken : Bool) (mode : Mode) (e : Detection) (id : PieceId) (s : State) : Link :=
  if taken then
    { s.link with
      nextHandle := s.link.nextHandle + 1
      slots := s.link.slots ++ [freshSlot (announcement mode e id s)
        (some (s.belt.count + BitVec.ofNat 32 (prof s).announceLifetime)) s.link.nextHandle] }
  else s.link

/-- A track after the request for its PIECE (R51). -/
def announcedTrack (taken : Bool) (u : Track) : Track := { u with unannounced := u.unannounced || !taken }

theorem addNotice_of_notTaken {n : Notice} {d : Option Count} {s : State} (refused : State → State)
    (hcls : noticeClass n ≠ .urgent)
    (h : ¬ ((s.link.state = .active ∨ s.link.state = .listening) ∧ s.link.slots.length < 8)) :
    addNotice n d refused s = refused s := by
  have hnone : roomForAdd (noticeClass n) s = none := by
    unfold roomForAdd
    by_cases hlink : s.link.state = .active ∨ s.link.state = .listening
    · have hfull : ¬ s.link.slots.length < Config.slotSize := fun hroom => h ⟨hlink, hroom⟩
      rw [if_neg hfull, if_neg hcls, ite_self]
    · exact if_pos (by simpa [acceptsAdds, and_comm] using hlink)
  rw [addNotice, slotAdd, hnone]

section
variable {k : Nat} {before after : List Track} {u : Track} {s : State} {mode : Mode} {e : Detection} {taken : Bool}

theorem markUnannounced_seat (hu : u.key = k) (h : KeyAlone k before after)
    (hid : ∀ v ∈ before, u.primary ∉ idsOf v) :
    markUnannounced u.primary (seat before after u s) = seat before after { u with unannounced := true } s := by
  have hnone : before.find? (hasId u.primary) = none := List.find?_eq_none.2 fun v hv hmem => hid v hv (hasId_iff.1 hmem)
  have hfind : trackOf u.primary (seat before after u s) = some u := by
    change (before ++ u :: after).find? (hasId u.primary) = some u
    rw [List.find?_append, hnone, Option.none_or]
    exact List.find?_cons_of_pos (hasId_iff.2 (List.mem_cons_self ..))
  rw [markUnannounced, hfind]
  dsimp only
  rw [modifyTrack_seat _ rfl (by rw [hu]; exact h)]

theorem announce_seat (hu : u.key = k) (h : KeyAlone k before after) (hid : ∀ v ∈ before, u.primary ∉ idsOf v)
    (hahead : reached s (s.belt.count + BitVec.ofNat 32 (prof s).announceLifetime) = false)
    (htaken : taken = decide ((s.link.state = .active ∨ s.link.state = .listening) ∧ s.link.slots.length < 8)) :
    announce u.primary mode e (seat before after u s)
      = seat before after (announcedTrack taken u) { s with link := announcedLink taken mode e u.primary s } := by
  rw [announce, announcedTrack, announcedLink]
  cases taken with
  | true =>
    obtain ⟨hlink, hroom⟩ := of_decide_eq_true htaken.symm
    rw [if_pos rfl, Bool.not_true, Bool.or_false]
    have haccepts : acceptsAdds s = true := by simpa [acceptsAdds, or_comm] using hlink
    exact addNotice_of_room (n := announcement mode e u.primary s)
      (d := some (s.belt.count + BitVec.ofNat 32 (prof s).announceLifetime)) (s := seat before after u s) _ haccepts hroom hahead
  | false =>
    rw [if_neg Bool.false_ne_true, Bool.not_false, Bool.or_true]
    refine (addNotice_of_notTaken (s := seat before after u s) _ AccessClass.noConfusion (of_decide_eq_false htaken.symm)).trans ?_
    exact markUnannounced_seat hu h hid

/-! #### A detection applied to its track (R41) -/

/-- A track after a detection has brought CLUSTER and its contribution (R31, R41, R58). -/
def detectedTrack (p : Profile) (mode : Mode) (e : Detection) (u : Track) : Track :=
  offeredTrack p.weights[p.localKind] (overlapFactor mode e u) (p.node, p.localKind) e.pairs
    { u with cluster := u.cluster || e.cluster }

theorem detectedTrack_kept (p : Profile) (mode : Mode) (e : Detection) (u : Track) :
    (detectedTrack p mode e u).key = u.key ∧ (detectedTrack p mode e u).primary = u.primary
      ∧ (detectedTrack p mode e u).d = u.d ∧ (detectedTrack p mode e u).length = u.length
      ∧ (detectedTrack p mode e u).source = u.source := by
  obtain ⟨hkey, -, hprimary, hd, hlength, hsource⟩ := offeredTrack_kept p.weights[p.localKind] (overlapFactor mode e u)
    (p.node, p.localKind) e.pairs { u with cluster := u.cluster || e.cluster }
  exact ⟨hkey, hprimary, hd, hlength, hsource⟩

/-- The track with its announcement, its fields written out (R41, R51). -/
theorem announced_detectedTrack {p : Profile} {m : Track}
    (hm : m = { u with cluster := u.cluster || e.cluster, unannounced := u.unannounced || !taken }) :
    announcedTrack taken (detectedTrack p mode e u)
      = if (p.node, p.localKind) ∈ u.contributors then m
        else if 6 ≤ u.contributors.length then { m with crowded := true }
        else
          { m with
            contributors := u.contributors ++ [(p.node, p.localKind)]
            accumulators := addPairs p.weights[p.localKind]
              (if mode = .quick then 16
              else 16 * (min e.laneHi u.laneHi + 1 - max e.laneLo u.laneLo) / (e.laneHi - e.laneLo + 1))
              e.pairs u.accumulators } := by
  rw [detectedTrack, offeredTrack, hm, ← overlapFactor_eq]
  dsimp only
  split
  · rfl
  · split <;> rfl

/-- What a request needs of its moment: its lifetime ahead, and `taken` telling whether the link has room (R50, R93). -/
structure Announces (taken : Bool) (s : State) : Prop where
  ahead : reached s (s.belt.count + BitVec.ofNat 32 (prof s).announceLifetime) = false
  taken_eq : taken = decide ((s.link.state = .active ∨ s.link.state = .listening) ∧ s.link.slots.length < 8)

theorem detected_seat (h : KeyAlone u.key before after) (hown : u.own ≠ .owned) :
    (offerContribution u.key ((prof s).node, (prof s).localKind) (overlapFactor mode e u) e.pairs
      (takeCluster u.key e.cluster (seat before after u s))).1 = seat before after (detectedTrack (prof s) mode e u) s := by
  rw [takeCluster_seat _ rfl h]
  exact offerContribution_seat rfl h hown

theorem applyDetection_of_quiet {t : State}
    (hmet : announce u.primary mode e (refine u.key (detectionExtent e) (some (prof s).datum)
      (offerContribution u.key ((prof s).node, (prof s).localKind) (overlapFactor mode e u) e.pairs
        (takeCluster u.key e.cluster s)).1) = t)
    (hhand : handToEvaluation mode u.key t = t) (hfinish : finishEntry u.key t = t) : applyDetection mode e u s = t := by
  rw [applyDetection, hmet, hhand, ite_self, hfinish]

/-- Where no evaluation follows and the track does not end, refinement decides the seat and the announcement follows. -/
theorem applyDetection_seat {b a : List Track} {w : Track} (h : KeyAlone u.key before after) (hown : u.own ≠ .owned)
    (hrefined : refine u.key (detectionExtent e) (some (prof s).datum) (seat before after (detectedTrack (prof s) mode e u) s)
      = seat b a w s)
    (hkey : w.key = u.key) (hprimary : w.primary = u.primary) (hba : b ++ a = before ++ after)
    (hid : ∀ v ∈ before ++ after, u.primary ∉ idsOf v) (hq : Quiet mode e.d s) (hann : Announces taken s)
    (hend : reached s (w.d + BitVec.ofNat 32 w.length + BitVec.ofNat 32 (prof s).horizon) = false) :
    applyDetection mode e u (seat before after u s)
      = seat b a (announcedTrack taken w) { s with link := announcedLink taken mode e u.primary s } := by
  have halone : KeyAlone u.key b a := by rw [KeyAlone, hba]; exact h
  have hannounced : announce u.primary mode e (seat b a w s)
      = seat b a (announcedTrack taken w) { s with link := announcedLink taken mode e u.primary s } := by
    rw [← hprimary]
    refine announce_seat hkey halone ?_ hann.ahead hann.taken_eq
    rw [hprimary]
    exact fun v hv => hid v (hba ▸ List.mem_append_left _ hv)
  obtain ⟨t, ht⟩ : ∃ t, t = seat b a (announcedTrack taken w) { s with link := announcedLink taken mode e u.primary s } :=
    ⟨_, rfl⟩
  have hoffered := detected_seat (mode := mode) (e := e) (s := s) h hown
  have hmet : announce u.primary mode e (refine u.key (detectionExtent e) (some (prof s).datum)
      (offerContribution u.key ((prof s).node, (prof s).localKind) (overlapFactor mode e u) e.pairs
        (takeCluster u.key e.cluster (seat before after u s))).1) = t := by
    rw [hoffered, hrefined, hannounced, ht]
  have hhand : handToEvaluation mode u.key t = t := by
    have hquiet : Quiet mode e.d t := by rw [ht]; exact hq
    exact hquiet.hand u.key
  have hfinish : finishEntry u.key t = t := by
    rw [ht]
    exact finishEntry_seat hkey halone hend
  rw [← ht]
  exact applyDetection_of_quiet hmet hhand hfinish

section
variable (h : KeyAlone u.key before after) (hown : u.own ≠ .owned) (hid : ∀ v ∈ before ++ after, u.primary ∉ idsOf v)
  (hq : Quiet mode e.d s) (hann : Announces taken s)
include h hown hid hq hann

theorem applyDetection_moved
    (hend : reached s (e.d + BitVec.ofNat 32 e.length + BitVec.ofNat 32 (prof s).horizon) = false)
    (hout : Replaces (some (prof s).datum) u.source) :
    applyDetection mode e u (seat before after u s)
      = { s with
          engine.tracks := placeTrack
            (announcedTrack taken (movedTrack (detectionExtent e) (some (prof s).datum) (detectedTrack (prof s) mode e u)))
            (before ++ after)
          link := announcedLink taken mode e u.primary s } := by
  obtain ⟨hkey, hprimary, -, -, hsource⟩ := detectedTrack_kept (prof s) mode e u
  obtain ⟨b, a, hba, hput⟩ := exists_insertBefore_split (fun v : Track => isAfter v.d e.d) (before ++ after)
  obtain ⟨w, hw⟩ : ∃ w, w = movedTrack (detectionExtent e) (some (prof s).datum) (detectedTrack (prof s) mode e u) := ⟨_, rfl⟩
  have hd : w.d = e.d := by rw [hw]; rfl
  have hplace : ∀ v : Track, v.d = e.d → placeTrack v (before ++ after) = b ++ v :: a := fun v hv => by
    rw [placeTrack, hv, hput]
  have hrefined : refine u.key (detectionExtent e) (some (prof s).datum)
      (seat before after (detectedTrack (prof s) mode e u) s) = seat b a w s := by
    rw [refine_seat_moved (x := detectionExtent e) hkey h (by exact hq) (by rw [hsource]; exact hout), ← hw, hplace w hd, seat]
  rw [← hw, hplace (announcedTrack taken w) hd]
  exact applyDetection_seat h hown hrefined (by rw [hw]; exact hkey) (by rw [hw]; exact hprimary) hba hid hq hann
    (by rw [hw]; exact hend)

theorem applyDetection_kept
    (hend : reached s (u.d + BitVec.ofNat 32 u.length + BitVec.ofNat 32 (prof s).horizon) = false)
    (hstay : ¬ Replaces (some (prof s).datum) u.source) :
    applyDetection mode e u (seat before after u s)
      = seat before after (announcedTrack taken (detectedTrack (prof s) mode e u))
          { s with link := announcedLink taken mode e u.primary s } := by
  obtain ⟨hkey, hprimary, hd, hlength, hsource⟩ := detectedTrack_kept (prof s) mode e u
  exact applyDetection_seat h hown (refine_seat_kept hkey h (by rw [hsource]; exact hstay)) hkey hprimary rfl hid hq hann
    (by rw [hd, hlength]; exact hend)

end

end

end Sys2Proof.Machine
end

/-! ### Detections that make a track, and the detection taken (R30, R40, R54, R55) -/

section
namespace Sys2Proof.Machine

set_option Elab.async false

/-! #### The next own ID (R30) -/

theorem freeSequence_eq_of_first {node : Node} {s : State} {fuel k : Nat} {start : Fin 4096} (hk : k < fuel)
    (hfree : trackOf ⟨node, start + Fin.ofNat 4096 k⟩ s = none)
    (htaken : ∀ j < k, trackOf ⟨node, start + Fin.ofNat 4096 j⟩ s ≠ none) :
    freeSequence node s fuel start = start + Fin.ofNat 4096 k := by
  have hshift (start : Fin 4096) (j : Nat) : start + 1 + Fin.ofNat 4096 j = start + Fin.ofNat 4096 (j + 1) := by
    apply Fin.ext
    simp only [Fin.val_add, Fin.val_ofNat]
    omega
  induction k generalizing fuel start with
  | zero =>
    obtain ⟨fuel, rfl⟩ := Nat.exists_eq_succ_of_ne_zero (Nat.ne_of_gt hk)
    rw [show start + Fin.ofNat 4096 0 = start from add_zero start] at hfree ⊢
    exact if_pos (by rw [hfree]; rfl)
  | succ k ih =>
    obtain ⟨fuel, rfl⟩ := Nat.exists_eq_succ_of_ne_zero (Nat.ne_of_gt (Nat.lt_of_le_of_lt (Nat.zero_le _) hk))
    have hfirst := htaken 0 (Nat.succ_pos k)
    rw [show start + Fin.ofNat 4096 0 = start from add_zero start] at hfirst
    have hstep : freeSequence node s (fuel + 1) start = freeSequence node s fuel (start + 1) :=
      if_neg fun hnone => hfirst (Option.isNone_iff_eq_none.1 hnone)
    rw [hstep, ih (Nat.lt_of_succ_lt_succ hk) (by rw [hshift]; exact hfree)
      fun j hj => by rw [hshift]; exact htaken (j + 1) (Nat.succ_lt_succ hj), hshift]

theorem freeSequence_eq {node : Node} {s : State} {start q : Fin 4096} (h : FirstFree node s.engine.tracks start q) :
    freeSequence node s 257 start = q := by
  obtain ⟨k, hk, hq, hfree, htaken⟩ := h
  rw [hq] at hfree ⊢
  refine freeSequence_eq_of_first (Nat.lt_succ_of_le hk) (trackOf_eq_none_iff.2 hfree) fun j hj hnone => ?_
  obtain ⟨t, ht, hid⟩ := htaken j hj
  exact trackOf_eq_none_iff.1 hnone t ht hid

/-! #### A detection that makes a track (R29, R40) -/

/-- The track a detection makes (R29, R40). -/
def madeTrack (taken : Bool) (p : Profile) (key : Nat) (q : Fin 4096) (e : Detection) : Track :=
  announcedTrack taken (acceptContribution p.weights[p.localKind] 16 (p.node, p.localKind) e.pairs
    (newTrack key ⟨p.node, q⟩ (detectionExtent e) (some p.datum) e.cluster false))

theorem createFromDetection_of_room {mode : Mode} {e : Detection} {taken : Bool} {q : Fin 4096} {s s1 : State}
    (hroom : roomForTrack none s = some s1)
    (hfree : FirstFree (prof s1).node s1.engine.tracks s1.engine.ownSequence q)
    (hfresh : ∀ v ∈ s1.engine.tracks, v.key ≠ s1.engine.nextKey) (hq : Quiet mode e.d s1) (hann : Announces taken s1)
    (hend : reached s1 (e.d + BitVec.ofNat 32 e.length + BitVec.ofNat 32 (prof s1).horizon) = false) :
    createFromDetection mode e s
      = { s1 with
          engine.ownSequence := q + 1
          engine.nextKey := s1.engine.nextKey + 1
          engine.tracks := placeTrack (madeTrack taken (prof s1) s1.engine.nextKey q e) s1.engine.tracks
          link := announcedLink taken mode e ⟨(prof s1).node, q⟩ s1 } := by
  obtain ⟨t, ht⟩ : ∃ t, t = acceptContribution (prof s1).weights[(prof s1).localKind] 16 ((prof s1).node, (prof s1).localKind)
    e.pairs (newTrack s1.engine.nextKey ⟨(prof s1).node, q⟩ (detectionExtent e) (some (prof s1).datum) e.cluster false) :=
    ⟨_, rfl⟩
  have htkey : t.key = s1.engine.nextKey := by rw [ht]; rfl
  have htd : t.d = e.d := by rw [ht]; rfl
  have htlength : t.length = e.length := by rw [ht]; rfl
  have htprimary : t.primary = ⟨(prof s1).node, q⟩ := by rw [ht]; rfl
  obtain ⟨s2, hs2⟩ : ∃ s2, s2 = { s1 with engine.ownSequence := q + 1, engine.nextKey := s1.engine.nextKey + 1 } := ⟨_, rfl⟩
  obtain ⟨b, a, hba, hput⟩ := exists_insertBefore_split (fun v : Track => isAfter v.d e.d) s1.engine.tracks
  have hplace : ∀ v : Track, v.d = e.d → placeTrack v s1.engine.tracks = b ++ v :: a := fun v hv => by
    rw [placeTrack, hv, hput]
  have halone : KeyAlone s1.engine.nextKey b a := by rw [KeyAlone, hba]; exact hfresh
  have hid : ∀ v ∈ b, t.primary ∉ idsOf v := by
    obtain ⟨-, -, -, hnone, -⟩ := hfree
    rw [htprimary]
    exact fun v hv => hnone v (hba ▸ List.mem_append_left _ hv)
  have hcreated : createTrack (newTrack s1.engine.nextKey ⟨(prof s1).node, q⟩ (detectionExtent e) (some (prof s1).datum)
      e.cluster false) ((prof s1).node, (prof s1).localKind) e.pairs { s1 with engine.ownSequence := q + 1 }
      = seat b a t s2 := by
    rw [seat, ← hplace t htd, ht, hs2]
    rfl
  have hann2 : Announces taken s2 := by rw [hs2]; exact ⟨hann.ahead, hann.taken_eq⟩
  have hannounced := announce_seat (mode := mode) (e := e) htkey halone hid hann2.ahead hann2.taken_eq
  have hmade : announcedTrack taken t = madeTrack taken (prof s1) s1.engine.nextKey q e := by rw [ht, madeTrack]
  rw [createFromDetection, hroom]
  dsimp only
  rw [freeSequence_eq hfree, hcreated]
  refine (congrArg (fun r => finishEntry s1.engine.nextKey (handNewTrack mode s1.engine.nextKey r))
    ((congrArg (fun i => announce i mode e (seat b a t s2)) htprimary.symm).trans hannounced)).trans ?_
  obtain ⟨s3, hs3⟩ : ∃ s3, s3 = { s2 with link := announcedLink taken mode e t.primary s2 } := ⟨_, rfl⟩
  have hhand : handNewTrack mode s1.engine.nextKey (seat b a (announcedTrack taken t) s3)
      = seat b a (announcedTrack taken t) s3 := by
    refine handNewTrack_seat htkey halone ?_
    rw [show (announcedTrack taken t).d = e.d from htd, hs3, hs2]
    exact hq
  have hfinish : finishEntry s1.engine.nextKey (seat b a (announcedTrack taken t) s3)
      = seat b a (announcedTrack taken t) s3 := by
    refine finishEntry_seat htkey halone ?_
    rw [show (announcedTrack taken t).d = e.d from htd, show (announcedTrack taken t).length = e.length from htlength, hs3,
      hs2]
    exact hend
  rw [← hs3, hhand, hfinish, seat, ← hplace (announcedTrack taken t) htd, hmade, hs3, htprimary, hs2]
  rfl

/-- Settles O11. -/
theorem detectionsJoinTheTrackTable : Obligations.DetectionsJoinTheTrackTable := by
  intro s e rest x fresh sent taken before after hbar hs hrun hturn hfirst hx hend hquiet hahead htaken hsent hfresh
  have hexec {t : State} := exec_detectionTaken (t := t) hbar hrun hturn hfirst
  have hx : x = detectionExtent e := hx
  have hann : Announces taken (detectionTaken rest s) := ⟨hahead, htaken⟩
  have hq : Quiet (detectionTaken rest s).engine.mode e.d (detectionTaken rest s) := hquiet
  have hlink (id : PieceId) : announcedLink taken s.engine.mode e id (detectionTaken rest s) = sent id := by
    rw [hsent]; rfl
  refine ⟨fun t m c u hsplit hown hmatch hm hc hu => ?_, fun hnone => ?_⟩
  · have halone : KeyAlone t.key before after := keyAlone_of_split (by rw [← hsplit]; exact hs.keys.1)
    obtain ⟨hb, ha⟩ := unnamed_of_split (id := t.primary) (by rw [← hsplit]; exact hs.ids) (List.mem_cons_self ..)
    have hid : ∀ v ∈ before ++ after, t.primary ∉ idsOf v := fun v hv => (List.mem_append.1 hv).elim (hb v) (ha v)
    have htake : takeDetection e (detectionTaken rest s)
        = applyDetection s.engine.mode e t (seat before after t (detectionTaken rest s)) := by
      have hself : seat before after t (detectionTaken rest s) = detectionTaken rest s := seat_self hsplit
      rw [hself, takeDetection, matchDetection_eq (s := detectionTaken rest s) (t := t) hsplit (by rw [← hx]; exact hmatch)]
      rfl
    have hdetected := announced_detectedTrack (u := t) (e := e) (taken := taken) (mode := s.engine.mode) (p := prof s) hm
    rw [← hc] at hdetected
    refine ⟨fun hout => ?_, fun hstay hkept => ?_⟩
    · refine hexec (htake.trans ((applyDetection_moved halone hown hid hq hann hend hout).trans ?_)) {}
      have hmoved : announcedTrack taken (movedTrack (detectionExtent e) (some (prof s).datum)
          (detectedTrack (prof s) s.engine.mode e t)) = u := by
        rw [hu, ← hdetected]
        rfl
      rw [show (detectionTaken rest s).engine.mode = s.engine.mode from rfl, hlink,
        show prof (detectionTaken rest s) = prof s from rfl, hmoved, ← show u.d = e.d by rw [hu]]
      rfl
    · refine hexec (htake.trans ((applyDetection_kept halone hown hid hq hann hkept hstay).trans ?_)) {}
      rw [show (detectionTaken rest s).engine.mode = s.engine.mode from rfl, hlink,
        show prof (detectionTaken rest s) = prof s from rfl, hdetected]
      rfl
  · have htake : takeDetection e (detectionTaken rest s) = createFromDetection s.engine.mode e (detectionTaken rest s) := by
      rw [takeDetection, matchDetection_eq_none _ (s := detectionTaken rest s) (by rw [← hx]; exact hnone)]
      rfl
    have hnewer : ∀ v ∈ s.engine.tracks, v.key ≠ s.engine.nextKey := fun v hv => Nat.ne_of_lt (hs.keys.2 v hv)
    have hmade (q : Fin 4096) : madeTrack taken (prof s) s.engine.nextKey q e = fresh ⟨(prof s).node, q⟩ := by
      rw [hfresh, madeTrack, announcedTrack]
      rfl
    have hplace (q : Fin 4096) (l : List Track) : placeTrack (madeTrack taken (prof s) s.engine.nextKey q e) l
        = insertBefore (fun w => 0 < (w.d - e.d).toInt) (fresh ⟨(prof s).node, q⟩) l := by
      rw [← hmade]
      rfl
    have hmay {v : Track} (hv : v ∈ s.engine.tracks) :
        mayEvict none (detectionTaken rest s) v = true ↔ ¬ StaysAtEviction s none v :=
      mayEvict_iff_not_stays (s := detectionTaken rest s) (split := none) ⟨hs.keys, hs.size, hs.ids⟩ (fun _ h => nomatch h) hv
    refine ⟨fun q hroom hfree => ?_, fun older v newer q hfull hsplit holder hv hfree => ?_, fun hfull hall => ?_⟩
    · refine hexec (htake.trans ((createFromDetection_of_room (roomForTrack_of_room none (s := detectionTaken rest s) hroom)
        hfree hnewer hq hann hend).trans ?_)) {}
      rw [show (detectionTaken rest s).engine.mode = s.engine.mode from rfl, hlink,
        show prof (detectionTaken rest s) = prof s from rfl,
        show (detectionTaken rest s).engine.nextKey = s.engine.nextKey from rfl, hplace]
      rfl
    · have halone : KeyAlone v.key older newer := keyAlone_of_split (by rw [← hsplit]; exact hs.keys.1)
      have hin {w : Track} (hw : w ∈ older ++ v :: newer) : w ∈ s.engine.tracks := by rw [hsplit]; exact hw
      have hrest {w : Track} (hw : w ∈ older ++ newer) : w ∈ s.engine.tracks :=
        hin ((List.mem_append.1 hw).elim (List.mem_append_left _) fun h => List.mem_append_right _ (List.mem_cons_of_mem _ h))
      have hroom := roomForTrack_of_full (s := detectionTaken rest s) (p := none) hfull hsplit
        (fun w hw => Bool.eq_false_iff.2 fun hyes => (hmay (hin (List.mem_append_left _ hw))).1 hyes (holder w hw))
        ((hmay (hin (List.mem_append_right _ (List.mem_cons_self ..)))).2 hv) halone
      refine hexec (htake.trans ((createFromDetection_of_room (taken := taken) hroom hfree (fun w hw => hnewer w (hrest hw)) hq
        ⟨hahead, htaken⟩ hend).trans ?_)) {}
      rw [show announcedLink taken (detectionTaken rest s).engine.mode e _ (evictedState older newer v (detectionTaken rest s))
          = sent _ from hlink _, show prof (evictedState older newer v (detectionTaken rest s)) = prof s from rfl,
        show (evictedState older newer v (detectionTaken rest s)).engine.nextKey = s.engine.nextKey from rfl, hplace]
      rfl
    · have hroom : roomForTrack none (detectionTaken rest s) = none :=
        roomForTrack_eq_none hfull fun w hw => Bool.eq_false_iff.2 fun hyes => (hmay hw).1 hyes (hall w hw)
      refine hexec (htake.trans ?_) {}
      rw [createFromDetection, hroom]
      rfl

end Sys2Proof.Machine
end
